-- ==== Sys2Proof/Word.lean ====
section
/-! DEFINITION. Word.lean: the widths of the tracker (spec 00_scope.md R13, R14). -/

namespace Sys2Proof

/-- `u8`: a byte offset of the register space (20_memory.md R62). -/
abbrev U8 := BitVec 8

/-- `u16` (00_scope.md R13): one register access, the token, a bounding-box edge. -/
abbrev U16 := BitVec 16

/-- `u32` (00_scope.md R14): a pointer, a threshold, the occupancy. Its arithmetic wraps modulo 2^32. -/
abbrev U32 := BitVec 32

end Sys2Proof
end

