-- ==== Sys2Proof/Syntax.lean ====
section
/-! DEFINITION. Syntax.lean: the registers, the record a snapshot holds, the operations (one constructor of `Instr` for each row of
spec/opcode_table.json), the operands beside an operation word, and the names by which a decoder rejects a word. -/

namespace Sys2Proof

/-- The agents that act on the tracker (00_scope.md R7). -/
inductive Agent where
  /-- the CPU side, the producer -/
  | cpu
  /-- the consumer side -/
  | consumer
  /-- the host: reset and snapshots -/
  | host
deriving DecidableEq, Repr

/-- The mapped registers (30_encoding.md R94). -/
inductive Reg where
  | status
  | control
  | clear
  | perfSelect
  | token
  | bboxLeft
  | bboxRight
  | bboxTop
  | bboxBottom
  | fifoBaseLo
  | fifoBaseHi
  | fifoEndLo
  | fifoEndHi
  | fifoHiWatermarkLo
  | fifoHiWatermarkHi
  | fifoLoWatermarkLo
  | fifoLoWatermarkHi
  | fifoRwDistanceLo
  | fifoRwDistanceHi
  | fifoWritePointerLo
  | fifoWritePointerHi
  | fifoReadPointerLo
  | fifoReadPointerHi
  | fifoBpLo
  | fifoBpHi
  | metric00
  | metric01
  | metric02
  | metric03
  | metric04
  | metric05
  | metric06
  | metric07
  | metric08
  | metric09
  | metric10
  | metric11
  | metric12
  | metric13
  | metric14
  | metric15
  | metric16
deriving DecidableEq, Repr

/-- The descriptor (10_state.md R20): nine `u32` fields (R21 to R27) and nine flags (R28 to R36). It is also the diagnostic dump
(60_exceptions.md R298). The field `endAddr` is the spec's `end`. -/
structure Descriptor where
  base : U32
  endAddr : U32
  writePointer : U32
  readPointer : U32
  safeReadPointer : U32
  distance : U32
  hiWatermark : U32
  loWatermark : U32
  breakpoint : U32
  linkEnabled : Bool
  readEnabled : Bool
  breakpointEnabled : Bool
  breakpointInterruptEnabled : Bool
  breakpointHit : Bool
  hiWatermarkInterruptEnabled : Bool
  loWatermarkInterruptEnabled : Bool
  hiWatermarkHit : Bool
  loWatermarkHit : Bool
deriving DecidableEq, Repr

/-- The twenty-five values a snapshot holds (45_snapshot.md R285), in the order of R286: the descriptor, the bounding box (10_state.md
R39), the token (R38) and the interrupt latch pair (R40). -/
structure SavedCore extends Descriptor where
  bboxLeft : U16
  bboxRight : U16
  bboxTop : U16
  bboxBottom : U16
  token : U16
  interruptAsserted : Bool
  interruptChangePending : Bool
deriving DecidableEq, Repr

/-- A snapshot (45_snapshot.md R287, R290, R291): the tuple of R286 and, as a second component that belongs to the event facility, its
queue. -/
structure Snapshot where
  core : SavedCore
  queue : List Bool
deriving DecidableEq, Repr

/-- The five operations of the consumer port (43_consumer_port.md R250), as they occur inside another operation (20_memory.md R72,
43_consumer_port.md R258). -/
inductive ConsumerOp where
  | rpSet (v : U32)
  | distSub (n : U32)
  | safePublish (v : U32)
  | bboxSet (l r t b : U16)
  | evalGpu
deriving DecidableEq, Repr

/-- The operations (30_encoding.md R91, R93): one constructor for each row of spec/opcode_table.json. `v` is the data written, `size` the
burst size, the other operands stand beside the word. -/
inductive Instr where
  | rd16Status
  | wr16Status (v : U16)
  | rd16Control
  | wr16Control (v : U16)
  | rd16Clear
  | wr16Clear (v : U16)
  | rd16PerfSelect
  | wr16PerfSelect (v : U16)
  | rd16Token
  | wr16Token (v : U16)
  | rd16BboxLeft
  | wr16BboxLeft (v : U16)
  | rd16BboxRight
  | wr16BboxRight (v : U16)
  | rd16BboxTop
  | wr16BboxTop (v : U16)
  | rd16BboxBottom
  | wr16BboxBottom (v : U16)
  | rd16FifoBaseLo
  | wr16FifoBaseLo (v : U16)
  | rd16FifoBaseHi
  | wr16FifoBaseHi (v : U16)
  | rd16FifoEndLo
  | wr16FifoEndLo (v : U16)
  | rd16FifoEndHi
  | wr16FifoEndHi (v : U16)
  | rd16FifoHiWatermarkLo
  | wr16FifoHiWatermarkLo (v : U16)
  | rd16FifoHiWatermarkHi
  | wr16FifoHiWatermarkHi (v : U16)
  | rd16FifoLoWatermarkLo
  | wr16FifoLoWatermarkLo (v : U16)
  | rd16FifoLoWatermarkHi
  | wr16FifoLoWatermarkHi (v : U16)
  | rd16FifoRwDistanceLo
  | wr16FifoRwDistanceLo (v : U16)
  | rd16FifoRwDistanceHi
  | wr16FifoRwDistanceHi (v : U16)
  | rd16FifoWritePointerLo
  | wr16FifoWritePointerLo (v : U16)
  | rd16FifoWritePointerHi
  | wr16FifoWritePointerHi (v : U16)
  | rd16FifoReadPointerLo
  | wr16FifoReadPointerLo (v : U16)
  | rd16FifoReadPointerHi
  | wr16FifoReadPointerHi (v : U16)
  | rd16FifoBpLo
  | wr16FifoBpLo (v : U16)
  | rd16FifoBpHi
  | wr16FifoBpHi (v : U16)
  | rd16Metric00
  | wr16Metric00 (v : U16)
  | rd16Metric01
  | wr16Metric01 (v : U16)
  | rd16Metric02
  | wr16Metric02 (v : U16)
  | rd16Metric03
  | wr16Metric03 (v : U16)
  | rd16Metric04
  | wr16Metric04 (v : U16)
  | rd16Metric05
  | wr16Metric05 (v : U16)
  | rd16Metric06
  | wr16Metric06 (v : U16)
  | rd16Metric07
  | wr16Metric07 (v : U16)
  | rd16Metric08
  | wr16Metric08 (v : U16)
  | rd16Metric09
  | wr16Metric09 (v : U16)
  | rd16Metric10
  | wr16Metric10 (v : U16)
  | rd16Metric11
  | wr16Metric11 (v : U16)
  | rd16Metric12
  | wr16Metric12 (v : U16)
  | rd16Metric13
  | wr16Metric13 (v : U16)
  | rd16Metric14
  | wr16Metric14 (v : U16)
  | rd16Metric15
  | wr16Metric15 (v : U16)
  | rd16Metric16
  | wr16Metric16 (v : U16)
  | burst (size : U16)
  | evalGpu
  | deliver
  | consRpSet (v : U32)
  | consDistSub (n : U32)
  | consSafePublish (v : U32)
  | consBboxSet (l r t b : U16)
  | snapshotSave
  | snapshotRestore (snap : Snapshot)
  | reset
deriving DecidableEq, Repr

/-- The operands carried beside an operation word (30_encoding.md R90, R93, R105). -/
inductive Beside where
  /-- no operand beside the word -/
  | none
  /-- one `u32` -/
  | number (v : U32)
  /-- four `u16`: left, right, top, bottom -/
  | box (l r t b : U16)
  /-- a snapshot -/
  | snapshot (snap : Snapshot)
deriving DecidableEq, Repr

/-- The fields of an operation (30_encoding.md R90): a register access, or a port event with its selector, its `DATA` field and its
operands beside the word. -/
inductive Form where
  | read (r : Reg)
  | write (r : Reg) (v : U16)
  | port (sel : BitVec 4) (data : U16) (beside : Beside)
deriving DecidableEq, Repr

/-- What an operation word spells: a row of the opcode table; or an access to an even offset with no row: to a further register of the
metrics block (30_encoding.md R99, 40_mmio_reads.md R158; log 15), or to an offset that nothing is mapped at (30_encoding.md R100 (c);
log 10). -/
inductive Operation where
  | instr (i : Instr)
  | metricRead (off : U8) (const : U16)
  | metricWrite (off : U8) (v : U16)
  | unmappedRead (off : U8)
  | unmappedWrite (off : U8) (v : U16)
deriving DecidableEq, Repr

/-- Why a word spells no operation (30_encoding.md R100, R106). -/
inductive DecodeError where
  /-- R100 (a): `KIND` is none of 0, 1, 2 -/
  | reservedKind
  /-- R100 (a): a port selector above 9 -/
  | reservedSelector
  /-- R90, R106: `SEL` must be 0 in a register access -/
  | nonzeroSelector
  /-- R90, R106: `DATA` must be 0 in an `RD16` and in every port event but `BURST` -/
  | nonzeroData
  /-- R90, R106: `OFF` must be 0 in a port event -/
  | nonzeroOffset
  /-- R65, R100 (b): the offset of an access is even -/
  | oddOffset
  /-- R93: the operands beside the word are not of the shape the operation takes (log 11) -/
  | operandMismatch
deriving DecidableEq, Repr

end Sys2Proof
end

