-- ==== Sys2Proof/Config.lean ====
section
/-! DEFINITION. Config.lean: the parameters of the tracker (00_scope.md R8 to R12, 92_eei_decisions.md) as plain data, and the values
the spec leaves open as constants with no body. -/

namespace Sys2Proof

/-- `ST_BIT_*`: the positions of the five STATUS bits (30_encoding.md R95). -/
structure StatusBits where
  overflow : Fin 16
  underflow : Fin 16
  readIdle : Fin 16
  commandIdle : Fin 16
  breakpoint : Fin 16
deriving DecidableEq, Repr

/-- `CT_BIT_*`: the positions of the six CONTROL bits (30_encoding.md R96). -/
structure ControlBits where
  readEnable : Fin 16
  bpEnable : Fin 16
  hiInt : Fin 16
  loInt : Fin 16
  link : Fin 16
  bpInt : Fin 16
deriving DecidableEq, Repr

/-- The constants of the metrics registers that are rows of the opcode table (30_encoding.md R99; log 15). -/
structure Metrics where
  m00 : U16
  m01 : U16
  m02 : U16
  m03 : U16
  m04 : U16
  m05 : U16
  m06 : U16
  m07 : U16
  m08 : U16
  m09 : U16
  m10 : U16
  m11 : U16
  m12 : U16
  m13 : U16
  m14 : U16
  m15 : U16
  m16 : U16
deriving DecidableEq, Repr

/-- The configuration (00_scope.md R8 to R12): fixed at initialisation, changed by no operation (70_reset_and_hazards.md R330). -/
structure Config where
  /-- `DUAL_THREAD` (R8) -/
  dualThread : Bool
  /-- `HI_MASK` (R9) -/
  hiMask : U16
  /-- `BURST_SIZE` (R11): the producer's duty, read by no operation (42_producer_burst.md R242) -/
  burstSize : U32
  /-- `OFF_<reg>` and the offsets of `METRICS` (30_encoding.md R94, R99): the registers that are mapped, each with its offset -/
  offsets : List (Reg × U8)
  /-- `ST_BIT_*` (R95) -/
  statusBits : StatusBits
  /-- `CT_BIT_*` (R96) -/
  controlBits : ControlBits
  /-- the constants of `METRICS` (R99) for the registers of the opcode table -/
  metrics : Metrics
  /-- the further (offset, constant) pairs of `METRICS` (R99), any number of them (log 15) -/
  moreMetrics : List (U8 × U16)
  /-- `CLEAR_READ_VALUE` (40_mmio_reads.md R132) -/
  clearReadValue : U16
  /-- `DIST_WRAP_BIAS` (40_mmio_reads.md R152) -/
  distWrapBias : U32
  /-- `MASKED_WRITE_KEEPS_OLD` (41_mmio_writes.md R184) -/
  maskedWriteKeepsOld : Bool
  /-- `FLUSH_ON_UNLINKED_BURST` (42_producer_burst.md R233) -/
  flushOnUnlinkedBurst : Bool
  /-- `IRQ_CAUSE` (60_exceptions.md R303): an opaque identifier -/
  irqCause : Nat
  /-- `MMIO_BASE` (20_memory.md R62, R81). Its width, 32 bits, is the model's choice: the spec gives a bus address none (log 33). -/
  mmioBase : U32
deriving DecidableEq, Repr

/-- `draw16()` (00_scope.md R15): the value of the n-th read that the spec leaves free (40_mmio_reads.md R133, R176). It has no body, so
nothing can be proved of it (log 6). -/
opaque Config.draw16 : Nat → U16

/-- `FLUSH_ON_UNLINKED_BURST` of the reset machine, OPEN (00_scope.md R12, D21; log 5). -/
opaque Config.openFlushOption : Bool

/-- `IRQ_CAUSE` of the reset machine, OPEN (00_scope.md R12, D31; log 5). -/
opaque Config.openIrqCause : Nat

/-- `MMIO_BASE` of the reset machine, OPEN (00_scope.md R12, D1; log 5); its width is the model's choice (log 33). -/
opaque Config.openMmioBase : U32

end Sys2Proof
end

