-- ==== Sys2Proof/Machine/Parameters.lean ====
section
/-! DEFINITION. Parameters.lean: the values the spec takes for the parameters (00_scope.md R9 to R12, 30_encoding.md R94 to R99). Offsets,
bit positions, `HI_MASK` and the metrics constants are the spec's defaults from general knowledge, not the source's words (log 16). -/

namespace Sys2Proof

/-- `LO_MASK` (00_scope.md R10). -/
def loMask : U16 := 0xFFE0#16

/-- `FREE_MASK` (00_scope.md R10). -/
def freeMask : U16 := 0xFFFF#16

/-- `HI_MASK` by `EXTENDED_ADDRESS` (00_scope.md R9; log 17). -/
def hiMaskOf (extendedAddress : Bool) : U16 := if extendedAddress then 0x1FFF#16 else 0x03FF#16

/-- The default register map (30_encoding.md R94, R99). -/
def defaultOffsets : List (Reg × U8) := [
  (.status, 0x00#8), (.control, 0x02#8), (.clear, 0x04#8), (.perfSelect, 0x06#8),
  (.token, 0x0E#8), (.bboxLeft, 0x10#8), (.bboxRight, 0x12#8), (.bboxTop, 0x14#8),
  (.bboxBottom, 0x16#8), (.fifoBaseLo, 0x20#8), (.fifoBaseHi, 0x22#8), (.fifoEndLo, 0x24#8),
  (.fifoEndHi, 0x26#8), (.fifoHiWatermarkLo, 0x28#8), (.fifoHiWatermarkHi, 0x2A#8), (.fifoLoWatermarkLo, 0x2C#8),
  (.fifoLoWatermarkHi, 0x2E#8), (.fifoRwDistanceLo, 0x30#8), (.fifoRwDistanceHi, 0x32#8), (.fifoWritePointerLo, 0x34#8),
  (.fifoWritePointerHi, 0x36#8), (.fifoReadPointerLo, 0x38#8), (.fifoReadPointerHi, 0x3A#8), (.fifoBpLo, 0x3C#8),
  (.fifoBpHi, 0x3E#8), (.metric00, 0x40#8), (.metric01, 0x42#8), (.metric02, 0x44#8),
  (.metric03, 0x46#8), (.metric04, 0x48#8), (.metric05, 0x4A#8), (.metric06, 0x4C#8),
  (.metric07, 0x4E#8), (.metric08, 0x50#8), (.metric09, 0x52#8), (.metric10, 0x54#8),
  (.metric11, 0x56#8), (.metric12, 0x58#8), (.metric13, 0x5A#8), (.metric14, 0x60#8),
  (.metric15, 0x62#8), (.metric16, 0x64#8)]

/-- The default STATUS positions (30_encoding.md R95). -/
def defaultStatusBits : StatusBits :=
  { overflow := 0, underflow := 1, readIdle := 2, commandIdle := 3, breakpoint := 4 }

/-- The default CONTROL positions (30_encoding.md R96). -/
def defaultControlBits : ControlBits :=
  { readEnable := 0, bpEnable := 1, hiInt := 2, loInt := 3, link := 4, bpInt := 5 }

/-- The default metrics constants (30_encoding.md R99): 0, and 4 for `METRIC_16`. -/
def defaultMetrics : Metrics :=
  { m00 := 0, m01 := 0, m02 := 0, m03 := 0, m04 := 0, m05 := 0, m06 := 0, m07 := 0, m08 := 0, m09 := 0, m10 := 0, m11 := 0, m12 := 0,
    m13 := 0, m14 := 0, m15 := 0, m16 := 0x0004#16 }

/-- The configuration of the reset machine: the spec's defaults; `DUAL_THREAD` false (log 4); the three open parameters without a value
(log 5). -/
def Config.default : Config :=
  { dualThread := false
    hiMask := hiMaskOf false
    burstSize := 32#32
    offsets := defaultOffsets
    statusBits := defaultStatusBits
    controlBits := defaultControlBits
    metrics := defaultMetrics
    moreMetrics := []
    clearReadValue := 0x0000#16
    distWrapBias := 0#32
    maskedWriteKeepsOld := true
    flushOnUnlinkedBurst := Config.openFlushOption
    irqCause := Config.openIrqCause
    mmioBase := Config.openMmioBase }

/-- `CTRL_MASK` (30_encoding.md R96): the mask of the six defined bits. -/
def ControlBits.mask (b : ControlBits) : U16 :=
  (1#16 <<< b.readEnable.val) ||| (1#16 <<< b.bpEnable.val) ||| (1#16 <<< b.hiInt.val) ||| (1#16 <<< b.loInt.val)
    ||| (1#16 <<< b.link.val) ||| (1#16 <<< b.bpInt.val)

/-- The register at an offset, if the map has one (30_encoding.md R106). -/
def regAt : List (Reg × U8) → U8 → Option Reg
  | [], _ => none
  | e :: rest, off => if e.2 = off then some e.1 else regAt rest off

/-- The offset of a register, if it is mapped. -/
def offsetIn : List (Reg × U8) → Reg → Option U8
  | [], _ => none
  | e :: rest, r => if e.1 = r then some e.2 else offsetIn rest r

/-- The constant that the further pairs of `METRICS` give an offset (40_mmio_reads.md R158), if they have it. -/
def metricAt : List (U8 × U16) → U8 → Option U16
  | [], _ => none
  | e :: rest, off => if e.1 = off then some e.2 else metricAt rest off

/-- The byte offset a bus address names (20_memory.md R62, 30_encoding.md R92): the eight low bits relative to `MMIO_BASE`; an address outside
the 256 bytes is the platform's matter. That a bus address has 32 bits and that the difference is taken modulo 2^32 are the model's
choices: the spec gives a bus address no width (log 33). No operation reads it. -/
def Config.busOffset (c : Config) (addr : U32) : Option U8 :=
  let d := addr - c.mmioBase
  if d.toNat < 256 then some (d.setWidth 8) else none

end Sys2Proof
end

