-- ==== Sys2Proof/Machine/Forms.lean ====
section
/-! DEFINITION. Forms.lean: the fields of every operation (30_encoding.md R91, R93), the operation of every register access, and the agent of
every operation (00_scope.md R7, 30_encoding.md R93). -/

namespace Sys2Proof

/-- `RD16` of a register (30_encoding.md R91). -/
def readInstr : Reg → Instr
  | .status => .rd16Status
  | .control => .rd16Control
  | .clear => .rd16Clear
  | .perfSelect => .rd16PerfSelect
  | .token => .rd16Token
  | .bboxLeft => .rd16BboxLeft
  | .bboxRight => .rd16BboxRight
  | .bboxTop => .rd16BboxTop
  | .bboxBottom => .rd16BboxBottom
  | .fifoBaseLo => .rd16FifoBaseLo
  | .fifoBaseHi => .rd16FifoBaseHi
  | .fifoEndLo => .rd16FifoEndLo
  | .fifoEndHi => .rd16FifoEndHi
  | .fifoHiWatermarkLo => .rd16FifoHiWatermarkLo
  | .fifoHiWatermarkHi => .rd16FifoHiWatermarkHi
  | .fifoLoWatermarkLo => .rd16FifoLoWatermarkLo
  | .fifoLoWatermarkHi => .rd16FifoLoWatermarkHi
  | .fifoRwDistanceLo => .rd16FifoRwDistanceLo
  | .fifoRwDistanceHi => .rd16FifoRwDistanceHi
  | .fifoWritePointerLo => .rd16FifoWritePointerLo
  | .fifoWritePointerHi => .rd16FifoWritePointerHi
  | .fifoReadPointerLo => .rd16FifoReadPointerLo
  | .fifoReadPointerHi => .rd16FifoReadPointerHi
  | .fifoBpLo => .rd16FifoBpLo
  | .fifoBpHi => .rd16FifoBpHi
  | .metric00 => .rd16Metric00
  | .metric01 => .rd16Metric01
  | .metric02 => .rd16Metric02
  | .metric03 => .rd16Metric03
  | .metric04 => .rd16Metric04
  | .metric05 => .rd16Metric05
  | .metric06 => .rd16Metric06
  | .metric07 => .rd16Metric07
  | .metric08 => .rd16Metric08
  | .metric09 => .rd16Metric09
  | .metric10 => .rd16Metric10
  | .metric11 => .rd16Metric11
  | .metric12 => .rd16Metric12
  | .metric13 => .rd16Metric13
  | .metric14 => .rd16Metric14
  | .metric15 => .rd16Metric15
  | .metric16 => .rd16Metric16

/-- `WR16` of a value to a register (30_encoding.md R91). -/
def writeInstr (r : Reg) (v : U16) : Instr :=
  match r with
  | .status => .wr16Status v
  | .control => .wr16Control v
  | .clear => .wr16Clear v
  | .perfSelect => .wr16PerfSelect v
  | .token => .wr16Token v
  | .bboxLeft => .wr16BboxLeft v
  | .bboxRight => .wr16BboxRight v
  | .bboxTop => .wr16BboxTop v
  | .bboxBottom => .wr16BboxBottom v
  | .fifoBaseLo => .wr16FifoBaseLo v
  | .fifoBaseHi => .wr16FifoBaseHi v
  | .fifoEndLo => .wr16FifoEndLo v
  | .fifoEndHi => .wr16FifoEndHi v
  | .fifoHiWatermarkLo => .wr16FifoHiWatermarkLo v
  | .fifoHiWatermarkHi => .wr16FifoHiWatermarkHi v
  | .fifoLoWatermarkLo => .wr16FifoLoWatermarkLo v
  | .fifoLoWatermarkHi => .wr16FifoLoWatermarkHi v
  | .fifoRwDistanceLo => .wr16FifoRwDistanceLo v
  | .fifoRwDistanceHi => .wr16FifoRwDistanceHi v
  | .fifoWritePointerLo => .wr16FifoWritePointerLo v
  | .fifoWritePointerHi => .wr16FifoWritePointerHi v
  | .fifoReadPointerLo => .wr16FifoReadPointerLo v
  | .fifoReadPointerHi => .wr16FifoReadPointerHi v
  | .fifoBpLo => .wr16FifoBpLo v
  | .fifoBpHi => .wr16FifoBpHi v
  | .metric00 => .wr16Metric00 v
  | .metric01 => .wr16Metric01 v
  | .metric02 => .wr16Metric02 v
  | .metric03 => .wr16Metric03 v
  | .metric04 => .wr16Metric04 v
  | .metric05 => .wr16Metric05 v
  | .metric06 => .wr16Metric06 v
  | .metric07 => .wr16Metric07 v
  | .metric08 => .wr16Metric08 v
  | .metric09 => .wr16Metric09 v
  | .metric10 => .wr16Metric10 v
  | .metric11 => .wr16Metric11 v
  | .metric12 => .wr16Metric12 v
  | .metric13 => .wr16Metric13 v
  | .metric14 => .wr16Metric14 v
  | .metric15 => .wr16Metric15 v
  | .metric16 => .wr16Metric16 v

/-- The fields of an operation (30_encoding.md R91, R93). -/
def Instr.form : Instr → Form
  | .rd16Status => .read .status
  | .wr16Status v => .write .status v
  | .rd16Control => .read .control
  | .wr16Control v => .write .control v
  | .rd16Clear => .read .clear
  | .wr16Clear v => .write .clear v
  | .rd16PerfSelect => .read .perfSelect
  | .wr16PerfSelect v => .write .perfSelect v
  | .rd16Token => .read .token
  | .wr16Token v => .write .token v
  | .rd16BboxLeft => .read .bboxLeft
  | .wr16BboxLeft v => .write .bboxLeft v
  | .rd16BboxRight => .read .bboxRight
  | .wr16BboxRight v => .write .bboxRight v
  | .rd16BboxTop => .read .bboxTop
  | .wr16BboxTop v => .write .bboxTop v
  | .rd16BboxBottom => .read .bboxBottom
  | .wr16BboxBottom v => .write .bboxBottom v
  | .rd16FifoBaseLo => .read .fifoBaseLo
  | .wr16FifoBaseLo v => .write .fifoBaseLo v
  | .rd16FifoBaseHi => .read .fifoBaseHi
  | .wr16FifoBaseHi v => .write .fifoBaseHi v
  | .rd16FifoEndLo => .read .fifoEndLo
  | .wr16FifoEndLo v => .write .fifoEndLo v
  | .rd16FifoEndHi => .read .fifoEndHi
  | .wr16FifoEndHi v => .write .fifoEndHi v
  | .rd16FifoHiWatermarkLo => .read .fifoHiWatermarkLo
  | .wr16FifoHiWatermarkLo v => .write .fifoHiWatermarkLo v
  | .rd16FifoHiWatermarkHi => .read .fifoHiWatermarkHi
  | .wr16FifoHiWatermarkHi v => .write .fifoHiWatermarkHi v
  | .rd16FifoLoWatermarkLo => .read .fifoLoWatermarkLo
  | .wr16FifoLoWatermarkLo v => .write .fifoLoWatermarkLo v
  | .rd16FifoLoWatermarkHi => .read .fifoLoWatermarkHi
  | .wr16FifoLoWatermarkHi v => .write .fifoLoWatermarkHi v
  | .rd16FifoRwDistanceLo => .read .fifoRwDistanceLo
  | .wr16FifoRwDistanceLo v => .write .fifoRwDistanceLo v
  | .rd16FifoRwDistanceHi => .read .fifoRwDistanceHi
  | .wr16FifoRwDistanceHi v => .write .fifoRwDistanceHi v
  | .rd16FifoWritePointerLo => .read .fifoWritePointerLo
  | .wr16FifoWritePointerLo v => .write .fifoWritePointerLo v
  | .rd16FifoWritePointerHi => .read .fifoWritePointerHi
  | .wr16FifoWritePointerHi v => .write .fifoWritePointerHi v
  | .rd16FifoReadPointerLo => .read .fifoReadPointerLo
  | .wr16FifoReadPointerLo v => .write .fifoReadPointerLo v
  | .rd16FifoReadPointerHi => .read .fifoReadPointerHi
  | .wr16FifoReadPointerHi v => .write .fifoReadPointerHi v
  | .rd16FifoBpLo => .read .fifoBpLo
  | .wr16FifoBpLo v => .write .fifoBpLo v
  | .rd16FifoBpHi => .read .fifoBpHi
  | .wr16FifoBpHi v => .write .fifoBpHi v
  | .rd16Metric00 => .read .metric00
  | .wr16Metric00 v => .write .metric00 v
  | .rd16Metric01 => .read .metric01
  | .wr16Metric01 v => .write .metric01 v
  | .rd16Metric02 => .read .metric02
  | .wr16Metric02 v => .write .metric02 v
  | .rd16Metric03 => .read .metric03
  | .wr16Metric03 v => .write .metric03 v
  | .rd16Metric04 => .read .metric04
  | .wr16Metric04 v => .write .metric04 v
  | .rd16Metric05 => .read .metric05
  | .wr16Metric05 v => .write .metric05 v
  | .rd16Metric06 => .read .metric06
  | .wr16Metric06 v => .write .metric06 v
  | .rd16Metric07 => .read .metric07
  | .wr16Metric07 v => .write .metric07 v
  | .rd16Metric08 => .read .metric08
  | .wr16Metric08 v => .write .metric08 v
  | .rd16Metric09 => .read .metric09
  | .wr16Metric09 v => .write .metric09 v
  | .rd16Metric10 => .read .metric10
  | .wr16Metric10 v => .write .metric10 v
  | .rd16Metric11 => .read .metric11
  | .wr16Metric11 v => .write .metric11 v
  | .rd16Metric12 => .read .metric12
  | .wr16Metric12 v => .write .metric12 v
  | .rd16Metric13 => .read .metric13
  | .wr16Metric13 v => .write .metric13 v
  | .rd16Metric14 => .read .metric14
  | .wr16Metric14 v => .write .metric14 v
  | .rd16Metric15 => .read .metric15
  | .wr16Metric15 v => .write .metric15 v
  | .rd16Metric16 => .read .metric16
  | .wr16Metric16 v => .write .metric16 v
  | .burst size => .port 0x0#4 size .none
  | .evalGpu => .port 0x1#4 0#16 .none
  | .deliver => .port 0x2#4 0#16 .none
  | .consRpSet v => .port 0x3#4 0#16 (.number v)
  | .consDistSub n => .port 0x4#4 0#16 (.number n)
  | .consSafePublish v => .port 0x5#4 0#16 (.number v)
  | .consBboxSet l r t b => .port 0x6#4 0#16 (.box l r t b)
  | .snapshotSave => .port 0x7#4 0#16 .none
  | .snapshotRestore snap => .port 0x8#4 0#16 (.snapshot snap)
  | .reset => .port 0x9#4 0#16 .none

/-- The agent of an operation (30_encoding.md R91, R93): the CPU side for every register access. -/
def Instr.agent (i : Instr) : Agent :=
  match i.form with
  | .read _ => .cpu
  | .write _ _ => .cpu
  | .port sel _ _ =>
    if sel.toNat = 0 then .cpu          -- BURST
    else if sel.toNat = 1 then .consumer -- EVAL_GPU
    else if sel.toNat = 2 then .cpu      -- DELIVER
    else if sel.toNat ≤ 6 then .consumer -- CONS_*
    else .host                           -- SNAPSHOT_SAVE, SNAPSHOT_RESTORE, RESET

/-- The operation of the table that a consumer-side operation inside another operation is (43_consumer_port.md R250, R258). -/
def consumerInstr : ConsumerOp → Instr
  | .rpSet v => .consRpSet v
  | .distSub n => .consDistSub n
  | .safePublish v => .consSafePublish v
  | .bboxSet l r t b => .consBboxSet l r t b
  | .evalGpu => .evalGpu

end Sys2Proof
end

