-- ==== Sys2Proof/WellFormed.lean ====
section
/-! DEFINITION. WellFormed.lean: the checks on a configuration and on an operation. The widths of operands are in their types; no port operand
is masked, aligned or range-checked (30_encoding.md R105). -/

namespace Sys2Proof

/-- Are the elements of a list pairwise different? -/
def distinct {α : Type} [DecidableEq α] : List α → Bool
  | [] => true
  | a :: rest => !rest.contains a && distinct rest

/-- 20_memory.md R65: every mapped offset is even. -/
def Config.offsetsEven (c : Config) : Bool := c.offsets.all (fun e => !e.2.getLsbD 0) && c.moreMetrics.all fun e => !e.1.getLsbD 0

/-- No two registers share an offset, those of the metrics block included (30_encoding.md R94, R99). -/
def Config.offsetsDistinct (c : Config) : Bool := distinct (c.offsets.map Prod.snd ++ c.moreMetrics.map Prod.fst)

/-- No register is mapped twice (30_encoding.md R94). -/
def Config.registersDistinct (c : Config) : Bool := distinct (c.offsets.map Prod.fst)

/-- The five STATUS bits have five positions (30_encoding.md R95). -/
def Config.statusBitsDistinct (c : Config) : Bool :=
  distinct [c.statusBits.overflow, c.statusBits.underflow, c.statusBits.readIdle, c.statusBits.commandIdle, c.statusBits.breakpoint]

/-- The six CONTROL bits have six positions (30_encoding.md R96). -/
def Config.controlBitsDistinct (c : Config) : Bool :=
  distinct [c.controlBits.readEnable, c.controlBits.bpEnable, c.controlBits.hiInt, c.controlBits.loInt, c.controlBits.link, c.controlBits.bpInt]

/-- A configuration the spec's rules speak of. -/
def Config.wellFormed (c : Config) : Bool :=
  c.offsetsEven && c.offsetsDistinct && c.registersDistinct && c.statusBitsDistinct && c.controlBitsDistinct

/-- An operation has a word under a configuration: the register it accesses is mapped (30_encoding.md R94, R106). -/
def Instr.wellFormed (c : Config) (i : Instr) : Bool :=
  match i.form with
  | .read r => (offsetIn c.offsets r).isSome
  | .write r _ => (offsetIn c.offsets r).isSome
  | .port _ _ _ => true

end Sys2Proof
end

