-- ==== Sys2Proof/Decode.lean ====
section
/-! DEFINITION. Decode.lean: from an operation word and its operands to an operation, total, rejecting by name (30_encoding.md R90 to R106);
then the encoder, written from the same table. -/

namespace Sys2Proof

/-- `KIND` (30_encoding.md R90). -/
def kindField (w : U32) : BitVec 4 := w.extractLsb' 28 4

/-- `SEL` (30_encoding.md R90). -/
def selField (w : U32) : BitVec 4 := w.extractLsb' 24 4

/-- `OFF` (30_encoding.md R90). -/
def offField (w : U32) : U8 := w.extractLsb' 16 8

/-- `DATA` (30_encoding.md R90). -/
def dataField (w : U32) : U16 := w.extractLsb' 0 16

/-- An operation word from its four fields (30_encoding.md R90). -/
def mkWord (kind sel : BitVec 4) (off : U8) (data : U16) : U32 := ((kind ++ sel) ++ off) ++ data

/-- The port events without their `OFF` and `DATA` fields (30_encoding.md R93): the selector and the operands beside the word. -/
def portEvent (sel : BitVec 4) (data : U16) (beside : Beside) : Except DecodeError Instr :=
  match sel.toNat, beside with
  | 0, .none => .ok (.burst data)
  | 1, .none => .ok .evalGpu
  | 2, .none => .ok .deliver
  | 3, .number v => .ok (.consRpSet v)
  | 4, .number n => .ok (.consDistSub n)
  | 5, .number v => .ok (.consSafePublish v)
  | 6, .box l r t b => .ok (.consBboxSet l r t b)
  | 7, .none => .ok .snapshotSave
  | 8, .snapshot snap => .ok (.snapshotRestore snap)
  | 9, .none => .ok .reset
  | n, _ => .error (if n > 9 then .reservedSelector else .operandMismatch)

/-- The whole of 30_encoding.md R106 under the configured register map. -/
def decode (c : Config) (w : U32) (beside : Beside) : Except DecodeError Operation :=
  if (kindField w).toNat > 2 then .error .reservedKind
  else if (kindField w).toNat = 2 then
    if offField w ≠ 0#8 then .error .nonzeroOffset
    else if dataField w ≠ 0#16 ∧ selField w ≠ 0#4 then .error .nonzeroData
    else
      match portEvent (selField w) (dataField w) beside with
      | .ok i => .ok (.instr i)
      | .error e => .error e
  else if selField w ≠ 0#4 then .error .nonzeroSelector
  else if (kindField w).toNat = 0 ∧ dataField w ≠ 0#16 then .error .nonzeroData
  else if (offField w).getLsbD 0 then .error .oddOffset
  else if beside ≠ .none then .error .operandMismatch
  else
    match regAt c.offsets (offField w) with
    | some r => .ok (.instr (if (kindField w).toNat = 0 then readInstr r else writeInstr r (dataField w)))
    | none =>
      match metricAt c.moreMetrics (offField w) with
      | some k => .ok (if (kindField w).toNat = 0 then .metricRead (offField w) k else .metricWrite (offField w) (dataField w))
      | none => .ok (if (kindField w).toNat = 0 then .unmappedRead (offField w) else .unmappedWrite (offField w) (dataField w))

/-- A descriptor of zeros and false flags. -/
def zeroDescriptor : Descriptor :=
  { base := 0, endAddr := 0, writePointer := 0, readPointer := 0, safeReadPointer := 0, distance := 0, hiWatermark := 0, loWatermark := 0,
    breakpoint := 0, linkEnabled := false, readEnabled := false, breakpointEnabled := false, breakpointInterruptEnabled := false,
    breakpointHit := false, hiWatermarkInterruptEnabled := false, loWatermarkInterruptEnabled := false, hiWatermarkHit := false,
    loWatermarkHit := false }

/-- A snapshot all of whose bits are 0. -/
def zeroSnapshot : Snapshot :=
  { core := { toDescriptor := zeroDescriptor, bboxLeft := 0, bboxRight := 0, bboxTop := 0, bboxBottom := 0, token := 0,
              interruptAsserted := false, interruptChangePending := false }
    queue := [] }

/-- The operands of zeros of the shape the word takes (30_encoding.md R93): what stands beside a word whose operand bits are 0. -/
def zeroBeside (w : U32) : Beside :=
  if (kindField w).toNat = 2 then
    match (selField w).toNat with
    | 3 => .number 0#32
    | 4 => .number 0#32
    | 5 => .number 0#32
    | 6 => .box 0#16 0#16 0#16 0#16
    | 8 => .snapshot zeroSnapshot
    | _ => .none
  else .none

/-- The operation word of `nbits` bits `w`, the bits above them 0. -/
def tableWord (nbits w : Nat) : U32 := BitVec.ofNat 32 (w % 2 ^ nbits)

/-- The row of spec/opcode_table.json that the decoder reads from a word, under the default register map. -/
def decodeTableWord (nbits w : Nat) : Option Instr :=
  match decode Config.default (tableWord nbits w) (zeroBeside (tableWord nbits w)) with
  | .ok (.instr i) => some i
  | _ => none

/-- The word and the operands of an operation's fields (30_encoding.md R91, R93); a register that is not mapped has no word
(`Instr.wellFormed`), the encoder then writes offset 0. -/
def Form.encode (c : Config) : Form → U32 × Beside
  | .read r => (mkWord 0x0#4 0#4 ((offsetIn c.offsets r).getD 0#8) 0#16, .none)
  | .write r v => (mkWord 0x1#4 0#4 ((offsetIn c.offsets r).getD 0#8) v, .none)
  | .port sel data beside => (mkWord 0x2#4 sel 0#8 data, beside)

/-- The word and the operands of an operation of the table. -/
def encode (c : Config) (i : Instr) : U32 × Beside := i.form.encode c

/-- The word and the operands of an operation, the accesses that have no row of the table included (30_encoding.md R91). -/
def encodeOperation (c : Config) : Operation → U32 × Beside
  | .instr i => encode c i
  | .metricRead off _ => (mkWord 0x0#4 0#4 off 0#16, .none)
  | .metricWrite off v => (mkWord 0x1#4 0#4 off v, .none)
  | .unmappedRead off => (mkWord 0x0#4 0#4 off 0#16, .none)
  | .unmappedWrite off v => (mkWord 0x1#4 0#4 off v, .none)

end Sys2Proof
end

