-- ==== Sys2Proof/Machine/State.lean ====
section
/-! DEFINITION. State.lean: everything the spec gives the machine, as plain data; the outcomes a step can stop with; the machine after
reset. -/

namespace Sys2Proof.Machine

/-- The two fatal conditions (60_exceptions.md R296). -/
inductive FatalReason where
  /-- code 1: `distance > end - base` after a burst -/
  | overflow
  /-- code 2: the link state differs from the queue's own fields -/
  | linkDesync
deriving DecidableEq, Repr

/-- The call site of the evaluator (44_interrupt_evaluator.md R265). -/
inductive Side where
  | cpu
  | gpu
deriving DecidableEq, Repr

/-- The output events (00_scope.md R16). `SyncGpu` is emitted by no rule (43_consumer_port.md R259). -/
inductive Event where
  | setInterrupt (cause : Nat) (level : Bool)
  | excCheck
  | runGpu
  | flushGpu
  | schedule (level : Bool)
  | fatal (reason : FatalReason) (dump : Descriptor)
deriving DecidableEq, Repr

/-- The consumer-side operations that fall inside the current operation: those of a `call FlushGpu` (43_consumer_port.md R258) and, used in
dual-thread mode only, those between one numbered step and the next (20_memory.md R72; log 2). -/
structure Interleaving where
  /-- during `call FlushGpu` -/
  flush : List ConsumerOp
  /-- after step 1 of `BURST` or of `WR16 CONTROL` -/
  after1 : List ConsumerOp
  /-- between steps 2a and 2b of `BURST` -/
  after2a : List ConsumerOp
  /-- after step 2 of `BURST` or of `WR16 CONTROL` -/
  after2 : List ConsumerOp
  /-- after step 3 of `BURST` -/
  after3 : List ConsumerOp
  /-- after step 4 of `BURST` -/
  after4 : List ConsumerOp
  /-- after step 5 of `BURST` -/
  after5 : List ConsumerOp
  /-- after step 6 of `BURST` -/
  after6 : List ConsumerOp
deriving DecidableEq, Repr

/-- No consumer-side operation falls inside the operation. -/
def Interleaving.none : Interleaving :=
  { flush := [], after1 := [], after2a := [], after2 := [], after3 := [], after4 := [], after5 := [], after6 := [] }

/-- One operation an agent has issued (10_state.md R47): its word, the operands beside it, and the inputs at its instant. -/
structure Issued where
  word : U32
  beside : Beside
  /-- the consumer's answer to the query of 10_state.md R49, 43_consumer_port.md R256 -/
  consAtBreakpoint : Bool
  interleaved : Interleaving
deriving DecidableEq, Repr

/-- The tracker (10_state.md R56). The fields of `SavedCore` (the descriptor, the bounding box, the token, the latch pair) are fields of
State. What follows the link state and `fault` is no state of the hardware: configuration, observation and inputs (INVENTORY.md). -/
structure State extends SavedCore where
  /-- 10_state.md R41 -/
  eventQueue : List Bool
  /-- 10_state.md R42 -/
  linkBase : U32
  /-- 10_state.md R42 -/
  linkEnd : U32
  /-- 10_state.md R42 -/
  linkWritePointer : U32
  /-- 10_state.md R43 -/
  fault : Option FatalReason
  /-- the configuration (00_scope.md R8 to R12; log 3) -/
  cfg : Config
  /-- the output trace, oldest first (00_scope.md R16; log 7) -/
  out : List Event
  /-- the value the last `RD16` returned (00_scope.md R15; log 7) -/
  readData : Option U16
  /-- what the last `SNAPSHOT_SAVE` yielded (45_snapshot.md R287; log 7) -/
  saved : Option Snapshot
  /-- how many free values have been drawn (00_scope.md R15; log 6) -/
  draws : Nat
  /-- the input of 10_state.md R49 -/
  consAtBreakpoint : Bool
  /-- the input of 20_memory.md R72 and 43_consumer_port.md R258 -/
  interleaved : Interleaving
  /-- the operations the agents have issued and the tracker has not performed, in the order of the interleaving (20_memory.md R71; log 1) -/
  issued : List Issued
deriving DecidableEq, Repr

/-- Why the machine is stuck. -/
inductive Fault where
  /-- `DELIVER` with an empty `event_queue` "has no step" (44_interrupt_evaluator.md R273). Raised by `execDeliver`. Safe: nothing is
  claimed of a delivery that does not happen. -/
  | nothingToDeliver
deriving DecidableEq, Repr

/-- Why an operation has no meaning. -/
inductive Refusal where
  /-- An operation this model gives no meaning. No arm of `exec` answers it. Safe. -/
  | notModelled (mnemonic : String)
  /-- While a fatal condition is recorded every operation but `RESET` is refused (60_exceptions.md R297). Raised by every meaning but
  `execReset`. Safe: it is what the spec says. -/
  | halted (reason : FatalReason)
  /-- The word spells no operation (30_encoding.md R100, R106). Raised by `step`. Safe: it is what the spec says. -/
  | undecodable (error : DecodeError)
deriving DecidableEq, Repr

/-- The outcome of a meaning. -/
abbrev Result := Host.Outcome State Fault Refusal

/-- The machine after reset under a configuration (10_state.md R51 to R54, 70_reset_and_hazards.md R330), with nothing issued, nothing
emitted and no input given. -/
def State.resetOf (c : Config) : State :=
  { base := 0, endAddr := 0, writePointer := 0, readPointer := 0, safeReadPointer := 0, distance := 0, hiWatermark := 0, loWatermark := 0,
    breakpoint := 0, linkEnabled := false, readEnabled := false, breakpointEnabled := false, breakpointInterruptEnabled := false,
    breakpointHit := false, hiWatermarkInterruptEnabled := false, loWatermarkInterruptEnabled := false, hiWatermarkHit := false,
    loWatermarkHit := false, bboxLeft := 0, bboxRight := 640, bboxTop := 0, bboxBottom := 480, token := 0, interruptAsserted := false,
    interruptChangePending := false, eventQueue := [], linkBase := 0, linkEnd := 0, linkWritePointer := 0, fault := Option.none, cfg := c,
    out := [], readData := Option.none, saved := Option.none, draws := 0, consAtBreakpoint := false, interleaved := Interleaving.none, issued := [] }

/-- The machine right after reset, under the spec's default parameters. -/
def State.reset : State := State.resetOf Config.default

end Sys2Proof.Machine
end

