-- ==== Sys2Proof/Machine/Operands.lean ====
section
/-! DEFINITION. Operands.lean: the halves of a split register (20_memory.md R67), the masked-write law (41_mmio_writes.md R184), the bits of the
computed registers, and the dual-thread distance (40_mmio_reads.md R152). -/

namespace Sys2Proof.Machine

/-- `lo16` (00_scope.md R13). -/
def lo16 (f : U32) : U16 := f.extractLsb' 0 16

/-- `hi16` (00_scope.md R13). -/
def hi16 (f : U32) : U16 := f.extractLsb' 16 16

/-- `{ hi, lo }` (00_scope.md R13). -/
def join (hi lo : U16) : U32 := hi ++ lo

/-- The masked-write law (41_mmio_writes.md R184): bits of the value outside the mask are dropped; bits of the old value outside the mask are
kept, or cleared where `MASKED_WRITE_KEEPS_OLD` is false (log 18). -/
def maskedWrite (c : Config) (mask old v : U16) : U16 :=
  (if c.maskedWriteKeepsOld then old &&& ~~~mask else 0#16) ||| (v &&& mask)

/-- A write to the `_LO` half of a field (41_mmio_writes.md R184; 30_encoding.md R98). -/
def writeLo (c : Config) (f : U32) (v : U16) : U32 := join (hi16 f) (maskedWrite c loMask (lo16 f) v)

/-- A write to the `_HI` half of a field (41_mmio_writes.md R184; 30_encoding.md R98). -/
def writeHi (c : Config) (f : U32) (v : U16) : U32 := join (maskedWrite c c.hiMask (hi16 f) v) (lo16 f)

/-- A Bool at a bit position of a 16-bit register. -/
def bitAt (n : Fin 16) (b : Bool) : U16 := if b then 1#16 <<< n.val else 0#16

/-- The dual-thread distance (40_mmio_reads.md R152). -/
def distDualThread (s : State) : U32 :=
  if s.safeReadPointer ≤ s.writePointer then s.writePointer - s.safeReadPointer
  else (s.endAddr - s.safeReadPointer) + (s.writePointer - s.base) + s.cfg.distWrapBias

/-- What the distance register shows (40_mmio_reads.md R153, R154). -/
def visibleDistance (s : State) : U32 := if s.cfg.dualThread then distDualThread s else s.distance

/-- What the read-pointer register shows (40_mmio_reads.md R155, R156). -/
def visibleReadPointer (s : State) : U32 := if s.cfg.dualThread then s.safeReadPointer else s.readPointer

/-- `wrap` (43_consumer_port.md R260, 42_producer_burst.md R234): the end of the region becomes its base; equality only. -/
def wrapPointer (base endAddr p : U32) : U32 := if p = endAddr then base else p

end Sys2Proof.Machine
end

