-- ==== Sys2Proof/Machine/Flags.lean ====
section
/-! DEFINITION. Flags.lean: the comparators and the composite condition (44_interrupt_evaluator.md R266 to R269), and the STATUS and CONTROL
projections (30_encoding.md R95, R96). Pure functions of the descriptor (90_conflicts.md C12). -/

namespace Sys2Proof.Machine

/-- The breakpoint comparator (44_interrupt_evaluator.md R266). -/
def newBreakpointHit (d : Descriptor) : Bool := d.breakpointEnabled && d.readPointer == d.breakpoint

/-- The high-watermark comparator (44_interrupt_evaluator.md R267): strict, unsigned. -/
def newHiWatermarkHit (d : Descriptor) : Bool := d.hiWatermark.toNat < d.distance.toNat

/-- The low-watermark comparator (44_interrupt_evaluator.md R268): strict, unsigned. -/
def newLoWatermarkHit (d : Descriptor) : Bool := d.distance.toNat < d.loWatermark.toNat

/-- `bp_rise` (44_interrupt_evaluator.md R279): the edge from clear to hit at an evaluation; read by no rule. -/
def bpRise (d : Descriptor) : Bool := newBreakpointHit d && !d.breakpointHit

/-- `bp_fall` (44_interrupt_evaluator.md R279): the edge from hit to clear at an evaluation; read by no rule. -/
def bpFall (d : Descriptor) : Bool := !newBreakpointHit d && d.breakpointHit

/-- The composite interrupt condition (44_interrupt_evaluator.md R269), on the hit flags as stored. -/
def compositeCondition (d : Descriptor) : Bool :=
  ((d.breakpointHit && d.breakpointInterruptEnabled) || (d.hiWatermarkHit && d.hiWatermarkInterruptEnabled)
    || (d.loWatermarkHit && d.loWatermarkInterruptEnabled)) && d.readEnabled

/-- The descriptor with the three hit flags rewritten (44_interrupt_evaluator.md R276). -/
def refreshHits (d : Descriptor) : Descriptor :=
  { d with breakpointHit := newBreakpointHit d, hiWatermarkHit := newHiWatermarkHit d, loWatermarkHit := newLoWatermarkHit d }

/-- `command_idle` (40_mmio_reads.md R130). -/
def commandIdle (d : Descriptor) (consAtBreakpoint : Bool) : Bool := d.distance == 0#32 || consAtBreakpoint || !d.readEnabled

/-- `read_idle` (40_mmio_reads.md R130). -/
def readIdle (d : Descriptor) : Bool := d.distance == 0#32 || d.readPointer == d.writePointer

/-- The STATUS projection (40_mmio_reads.md R130, 30_encoding.md R95). -/
def statusWord (b : StatusBits) (d : Descriptor) (consAtBreakpoint : Bool) : U16 :=
  bitAt b.overflow d.hiWatermarkHit ||| bitAt b.underflow d.loWatermarkHit ||| bitAt b.readIdle (readIdle d)
    ||| bitAt b.commandIdle (commandIdle d consAtBreakpoint) ||| bitAt b.breakpoint d.breakpointHit

/-- The CONTROL projection (40_mmio_reads.md R131, 30_encoding.md R96). -/
def controlWord (b : ControlBits) (d : Descriptor) : U16 :=
  bitAt b.readEnable d.readEnabled ||| bitAt b.bpEnable d.breakpointEnabled ||| bitAt b.hiInt d.hiWatermarkInterruptEnabled
    ||| bitAt b.loInt d.loWatermarkInterruptEnabled ||| bitAt b.link d.linkEnabled ||| bitAt b.bpInt d.breakpointInterruptEnabled

end Sys2Proof.Machine
end

