-- ==== Sys2Proof/Machine/Ops.lean ====
section
/-! DEFINITION. Ops.lean: the operations the meanings share: emitting events, the halted guard, register access, the interrupt line, the
evaluator, fatal conditions, the consumer port, and the consumer-side operations inside another operation. -/

namespace Sys2Proof.Machine

/-- `emit` (00_scope.md R15): the events, in order, at the end of the output trace. -/
def emit (events : List Event) (s : State) : State := { s with out := s.out ++ events }

/-- While a fatal condition is recorded an operation is refused and changes nothing (60_exceptions.md R297). -/
def whenRunning (s : State) (result : Result) : Result :=
  match s.fault with
  | none => result
  | some reason => .refused (.halted reason)

/-- An `RD16` that returns `v` (20_memory.md R69): no state changes, no event is emitted. -/
def busRead (v : U16) (s : State) : Result := whenRunning s (.next { s with readData := some v })

/-- An `RD16` that returns a free value, `draw16()` (40_mmio_reads.md R133, R176; log 6). -/
def busReadFree (s : State) : Result :=
  whenRunning s (.next { s with readData := some (Config.draw16 s.draws), draws := s.draws + 1 })

/-- A `WR16` that stores: the stored fields change as `t` says (41_mmio_writes.md R184). -/
def busWrite (s t : State) : Result := whenRunning s (.next t)

/-- A `WR16` that is rejected or ignored (60_exceptions.md R300): no state changes. -/
def busWriteIgnored (s : State) : Result := whenRunning s (.next s)

/-- `ApplyTransition` (44_interrupt_evaluator.md R272), the entry (`level = true`, 60_exceptions.md R306) and the return (`level = false`,
R308) of the interrupt line. -/
def applyTransition (level : Bool) (s : State) : State :=
  { s with
    interruptAsserted := level
    interruptChangePending := false
    out := s.out ++ [.setInterrupt s.cfg.irqCause level, .excCheck, .runGpu] }

/-- The deferring branch (44_interrupt_evaluator.md R270): the change is handed to the event facility. -/
def scheduleTransition (level : Bool) (s : State) : State :=
  { s with
    interruptChangePending := true
    eventQueue := s.eventQueue ++ [level]
    out := s.out ++ [.schedule level] }

/-- The three hit flags rewritten (44_interrupt_evaluator.md R276). -/
def evaluateHits (s : State) : State := { s with toDescriptor := refreshHits s.toDescriptor }

/-- Apply or defer a change of the line (44_interrupt_evaluator.md R270, R271). -/
def settleLine (side : Side) (s : State) : State :=
  let cond := compositeCondition s.toDescriptor
  if cond ≠ s.interruptAsserted ∧ s.interruptChangePending = false then
    if side = .gpu ∧ s.cfg.dualThread = true then scheduleTransition cond s else applyTransition cond s
  else s

/-- `Evaluate(side)` (44_interrupt_evaluator.md R276). -/
def evaluate (side : Side) (s : State) : State := settleLine side (evaluateHits s)

/-- `raise Fatal(reason)` (60_exceptions.md R296 to R298): the fault is recorded and the dump is the descriptor as it stands. -/
def raiseFatal (reason : FatalReason) (s : State) : State :=
  { s with fault := some reason, out := s.out ++ [.fatal reason s.toDescriptor] }

/-- `read_pointer <- v` (43_consumer_port.md R251). -/
def setReadPointer (v : U32) (s : State) : State := { s with readPointer := v }

/-- `distance <- distance - n`, modulo 2^32 (43_consumer_port.md R252; log 9). -/
def subDistance (n : U32) (s : State) : State := { s with distance := s.distance - n }

/-- `safe_read_pointer <- v` (43_consumer_port.md R253). -/
def publishSafe (v : U32) (s : State) : State := { s with safeReadPointer := v }

/-- The four edges of the bounding box (43_consumer_port.md R254). -/
def setBbox (l r t b : U16) (s : State) : State := { s with bboxLeft := l, bboxRight := r, bboxTop := t, bboxBottom := b }

/-- One operation of the consumer port inside another operation (43_consumer_port.md R250, R258). -/
def consumerStep (op : ConsumerOp) (s : State) : State :=
  match op with
  | .rpSet v => setReadPointer v s
  | .distSub n => subDistance n s
  | .safePublish v => publishSafe v s
  | .bboxSet l r t b => setBbox l r t b s
  | .evalGpu => evaluate .gpu s

/-- A finite sequence of operations of the consumer port (43_consumer_port.md R258). -/
def runConsumer : List ConsumerOp → State → State
  | [], s => s
  | op :: rest, s => runConsumer rest (consumerStep op s)

/-- The consumer-side operations between two numbered steps: in dual-thread mode only (20_memory.md R72). -/
def between (ops : List ConsumerOp) (s : State) : State := if s.cfg.dualThread then runConsumer ops s else s

/-- `emit FlushGpu ; call FlushGpu` (43_consumer_port.md R258): it always returns, with no postcondition. -/
def callFlush (s : State) : State := runConsumer s.interleaved.flush (emit [.flushGpu] s)

/-- Every field of 10_state.md R56 at its reset value (70_reset_and_hazards.md R330); the configuration, the output trace and the other
observations and inputs stay (10_state.md R54; log 7). -/
def resetTracker (s : State) : State :=
  { s with
    toSavedCore := (State.resetOf s.cfg).toSavedCore
    eventQueue := []
    linkBase := 0
    linkEnd := 0
    linkWritePointer := 0
    fault := none }

end Sys2Proof.Machine
end

