-- ==== Sys2Proof/Machine/Burst.lean ====
section
/-! DEFINITION. Burst.lean: the producer operation (42_producer_burst.md), step by step, with the consumer-side operations that fall between
its steps in dual-thread mode (20_memory.md R72; log 2). -/

namespace Sys2Proof.Machine

/-- Step 2a (42_producer_burst.md R233): is the flush of an unlinked burst forced? -/
def flushForced (s : State) : Bool :=
  s.linkBase == s.base && s.linkEnd == s.endAddr && s.distance != 0#32 && s.cfg.flushOnUnlinkedBurst

/-- Step 2a (42_producer_burst.md R232, R233). -/
def burstFlush (s : State) : State := if flushForced s then callFlush s else s

/-- Step 3, first half (42_producer_burst.md R234): advance and wrap. -/
def burstAdvance (size : U32) (s : State) : State :=
  { s with writePointer := wrapPointer s.base s.endAddr (s.writePointer + size) }

/-- Step 3, second half (42_producer_burst.md R235): publish the link state. -/
def burstPublish (s : State) : State :=
  if s.linkEnabled = true ∧ s.readEnabled = true then
    { s with linkBase := s.base, linkEnd := s.endAddr, linkWritePointer := s.writePointer }
  else s

/-- Step 4 (42_producer_burst.md R236): not strict. -/
def burstEarlyCheck (s : State) : State := if s.hiWatermark.toNat ≤ s.distance.toNat then emit [.excCheck] s else s

/-- Step 5 (42_producer_burst.md R237): modulo 2^32, no saturation. -/
def burstAdd (size : U32) (s : State) : State := { s with distance := s.distance + size }

/-- Step 7, first check (42_producer_burst.md R239). -/
def overflowed (s : State) : Bool := (s.endAddr - s.base).toNat < s.distance.toNat

/-- Step 7, second check (42_producer_burst.md R240). -/
def linkDesynced (s : State) : Bool :=
  s.linkEnabled && (s.linkWritePointer != s.writePointer || s.linkBase != s.base || s.linkEnd != s.endAddr)

/-- Step 7 (42_producer_burst.md R239, R240; 60_exceptions.md R316: the occupancy first). -/
def burstPostconditions (s : State) : State :=
  if overflowed s then raiseFatal .overflow s
  else if linkDesynced s then raiseFatal .linkDesync s
  else s

/-- Steps 2a and 2b (42_producer_burst.md R232): link mode is off, nothing moves. -/
def burstUnlinked (s : State) : State := emit [.runGpu] (between s.interleaved.after2a (burstFlush s))

/-- Steps 3 to 7: link mode is on. -/
def burstLinked (size : U32) (s : State) : State :=
  let s3 := between s.interleaved.after3 (burstPublish (burstAdvance size s))
  let s4 := between s.interleaved.after4 (burstEarlyCheck s3)
  let s5 := between s.interleaved.after5 (burstAdd size s4)
  let s6 := between s.interleaved.after6 (emit [.runGpu] s5)
  burstPostconditions s6

/-- `BURST S`, complete (42_producer_burst.md R241). -/
def burst (size : U32) (s : State) : State :=
  let s1 := between s.interleaved.after1 (evaluate .cpu s)
  if s1.linkEnabled then burstLinked size (between s1.interleaved.after2 s1) else burstUnlinked s1

/-- `BURST S` (42_producer_burst.md R230, R241): the 16-bit operand widened with zeros. -/
def execBurst (size : U16) (s : State) : Result := whenRunning s (.next (burst (size.setWidth 32) s))

end Sys2Proof.Machine
end

