-- ==== Sys2Proof/Machine/ConsumerPort.lean ====
section
/-! DEFINITION. ConsumerPort.lean: the consumer-side operations (43_consumer_port.md R251 to R254). -/

namespace Sys2Proof.Machine

/-- `CONS_RP_SET v` (43_consumer_port.md R251). -/
def execConsRpSet (v : U32) (s : State) : Result := whenRunning s (.next (setReadPointer v s))

/-- `CONS_DIST_SUB n` (43_consumer_port.md R252). -/
def execConsDistSub (n : U32) (s : State) : Result := whenRunning s (.next (subDistance n s))

/-- `CONS_SAFE_PUBLISH v` (43_consumer_port.md R253). -/
def execConsSafePublish (v : U32) (s : State) : Result := whenRunning s (.next (publishSafe v s))

/-- `CONS_BBOX_SET l, r, t, b` (43_consumer_port.md R254). -/
def execConsBboxSet (l r t b : U16) (s : State) : Result := whenRunning s (.next (setBbox l r t b s))

end Sys2Proof.Machine
end

