-- ==== Sys2Proof/Machine/Evaluator.lean ====
section
/-! DEFINITION. Evaluator.lean: `EVAL_GPU` and `DELIVER` (44_interrupt_evaluator.md R273, R277). -/

namespace Sys2Proof.Machine

/-- `EVAL_GPU` (44_interrupt_evaluator.md R277). -/
def execEvalGpu (s : State) : Result := whenRunning s (.next (evaluate .gpu s))

/-- The delivery of the head of the queue (44_interrupt_evaluator.md R273); with an empty queue it "has no step" (log 13). -/
def deliverHead (s : State) : Result :=
  match s.eventQueue with
  | [] => .fault .nothingToDeliver
  | level :: rest => .next (applyTransition level { s with eventQueue := rest })

/-- `DELIVER` (44_interrupt_evaluator.md R273). -/
def execDeliver (s : State) : Result := whenRunning s (deliverHead s)

end Sys2Proof.Machine
end

