-- ==== Sys2Proof/Machine/RegisterReads.lean ====
section
/-! DEFINITION. RegisterReads.lean: the meaning of every `RD16` (40_mmio_reads.md). A read changes no state and emits no event (20_memory.md
R69). -/

namespace Sys2Proof.Machine

/-- `RD16 STATUS` (40_mmio_reads.md R130). -/
def execRd16Status (s : State) : Result := busRead (statusWord s.cfg.statusBits s.toDescriptor s.consAtBreakpoint) s

/-- `RD16 CONTROL` (40_mmio_reads.md R131). -/
def execRd16Control (s : State) : Result := busRead (controlWord s.cfg.controlBits s.toDescriptor) s

/-- `RD16 CLEAR` (40_mmio_reads.md R132). -/
def execRd16Clear (s : State) : Result := busRead s.cfg.clearReadValue s

/-- `RD16 PERF_SELECT` (40_mmio_reads.md R133). -/
def execRd16PerfSelect (s : State) : Result := busReadFree s

/-- `RD16 TOKEN` (40_mmio_reads.md R134). -/
def execRd16Token (s : State) : Result := busRead s.token s

/-- `RD16 BBOX_LEFT` (40_mmio_reads.md R135). -/
def execRd16BboxLeft (s : State) : Result := busRead s.bboxLeft s

/-- `RD16 BBOX_RIGHT` (40_mmio_reads.md R136). -/
def execRd16BboxRight (s : State) : Result := busRead s.bboxRight s

/-- `RD16 BBOX_TOP` (40_mmio_reads.md R137). -/
def execRd16BboxTop (s : State) : Result := busRead s.bboxTop s

/-- `RD16 BBOX_BOTTOM` (40_mmio_reads.md R138). -/
def execRd16BboxBottom (s : State) : Result := busRead s.bboxBottom s

/-- `RD16 FIFO_BASE_LO` (40_mmio_reads.md R139). -/
def execRd16FifoBaseLo (s : State) : Result := busRead (lo16 s.base) s

/-- `RD16 FIFO_BASE_HI` (40_mmio_reads.md R140). -/
def execRd16FifoBaseHi (s : State) : Result := busRead (hi16 s.base) s

/-- `RD16 FIFO_END_LO` (40_mmio_reads.md R141). -/
def execRd16FifoEndLo (s : State) : Result := busRead (lo16 s.endAddr) s

/-- `RD16 FIFO_END_HI` (40_mmio_reads.md R142). -/
def execRd16FifoEndHi (s : State) : Result := busRead (hi16 s.endAddr) s

/-- `RD16 FIFO_HI_WATERMARK_LO` (40_mmio_reads.md R143). -/
def execRd16FifoHiWatermarkLo (s : State) : Result := busRead (lo16 s.hiWatermark) s

/-- `RD16 FIFO_HI_WATERMARK_HI` (40_mmio_reads.md R144). -/
def execRd16FifoHiWatermarkHi (s : State) : Result := busRead (hi16 s.hiWatermark) s

/-- `RD16 FIFO_LO_WATERMARK_LO` (40_mmio_reads.md R145). -/
def execRd16FifoLoWatermarkLo (s : State) : Result := busRead (lo16 s.loWatermark) s

/-- `RD16 FIFO_LO_WATERMARK_HI` (40_mmio_reads.md R146). -/
def execRd16FifoLoWatermarkHi (s : State) : Result := busRead (hi16 s.loWatermark) s

/-- `RD16 FIFO_RW_DISTANCE_LO` (40_mmio_reads.md R153). -/
def execRd16FifoRwDistanceLo (s : State) : Result := busRead (lo16 (visibleDistance s)) s

/-- `RD16 FIFO_RW_DISTANCE_HI` (40_mmio_reads.md R154). -/
def execRd16FifoRwDistanceHi (s : State) : Result := busRead (hi16 (visibleDistance s)) s

/-- `RD16 FIFO_WRITE_POINTER_LO` (40_mmio_reads.md R147). -/
def execRd16FifoWritePointerLo (s : State) : Result := busRead (lo16 s.writePointer) s

/-- `RD16 FIFO_WRITE_POINTER_HI` (40_mmio_reads.md R148). -/
def execRd16FifoWritePointerHi (s : State) : Result := busRead (hi16 s.writePointer) s

/-- `RD16 FIFO_READ_POINTER_LO` (40_mmio_reads.md R155). -/
def execRd16FifoReadPointerLo (s : State) : Result := busRead (lo16 (visibleReadPointer s)) s

/-- `RD16 FIFO_READ_POINTER_HI` (40_mmio_reads.md R156). -/
def execRd16FifoReadPointerHi (s : State) : Result := busRead (hi16 (visibleReadPointer s)) s

/-- `RD16 FIFO_BP_LO` (40_mmio_reads.md R149). -/
def execRd16FifoBpLo (s : State) : Result := busRead (lo16 s.breakpoint) s

/-- `RD16 FIFO_BP_HI` (40_mmio_reads.md R150). -/
def execRd16FifoBpHi (s : State) : Result := busRead (hi16 s.breakpoint) s

/-- `RD16 METRIC_00` (40_mmio_reads.md R159). -/
def execRd16Metric00 (s : State) : Result := busRead s.cfg.metrics.m00 s

/-- `RD16 METRIC_01` (40_mmio_reads.md R160). -/
def execRd16Metric01 (s : State) : Result := busRead s.cfg.metrics.m01 s

/-- `RD16 METRIC_02` (40_mmio_reads.md R161). -/
def execRd16Metric02 (s : State) : Result := busRead s.cfg.metrics.m02 s

/-- `RD16 METRIC_03` (40_mmio_reads.md R162). -/
def execRd16Metric03 (s : State) : Result := busRead s.cfg.metrics.m03 s

/-- `RD16 METRIC_04` (40_mmio_reads.md R163). -/
def execRd16Metric04 (s : State) : Result := busRead s.cfg.metrics.m04 s

/-- `RD16 METRIC_05` (40_mmio_reads.md R164). -/
def execRd16Metric05 (s : State) : Result := busRead s.cfg.metrics.m05 s

/-- `RD16 METRIC_06` (40_mmio_reads.md R165). -/
def execRd16Metric06 (s : State) : Result := busRead s.cfg.metrics.m06 s

/-- `RD16 METRIC_07` (40_mmio_reads.md R166). -/
def execRd16Metric07 (s : State) : Result := busRead s.cfg.metrics.m07 s

/-- `RD16 METRIC_08` (40_mmio_reads.md R167). -/
def execRd16Metric08 (s : State) : Result := busRead s.cfg.metrics.m08 s

/-- `RD16 METRIC_09` (40_mmio_reads.md R168). -/
def execRd16Metric09 (s : State) : Result := busRead s.cfg.metrics.m09 s

/-- `RD16 METRIC_10` (40_mmio_reads.md R169). -/
def execRd16Metric10 (s : State) : Result := busRead s.cfg.metrics.m10 s

/-- `RD16 METRIC_11` (40_mmio_reads.md R170). -/
def execRd16Metric11 (s : State) : Result := busRead s.cfg.metrics.m11 s

/-- `RD16 METRIC_12` (40_mmio_reads.md R171). -/
def execRd16Metric12 (s : State) : Result := busRead s.cfg.metrics.m12 s

/-- `RD16 METRIC_13` (40_mmio_reads.md R172). -/
def execRd16Metric13 (s : State) : Result := busRead s.cfg.metrics.m13 s

/-- `RD16 METRIC_14` (40_mmio_reads.md R173). -/
def execRd16Metric14 (s : State) : Result := busRead s.cfg.metrics.m14 s

/-- `RD16 METRIC_15` (40_mmio_reads.md R174). -/
def execRd16Metric15 (s : State) : Result := busRead s.cfg.metrics.m15 s

/-- `RD16 METRIC_16` (40_mmio_reads.md R175). -/
def execRd16Metric16 (s : State) : Result := busRead s.cfg.metrics.m16 s

/-- `RD16` of a further register of the metrics block (40_mmio_reads.md R158): the constant of its pair. -/
def execRd16FurtherMetric (const : U16) (s : State) : Result := busRead const s

/-- `RD16` of an even offset that is not in the register map (40_mmio_reads.md R176). -/
def execRd16Unmapped (_off : U8) (s : State) : Result := busReadFree s

end Sys2Proof.Machine
end

