-- ==== Sys2Proof/Machine/RegisterWrites.lean ====
section
/-! DEFINITION. RegisterWrites.lean: the meaning of every `WR16` (41_mmio_writes.md). No write runs the evaluator, and no write but CONTROL emits
an event (R224). -/

namespace Sys2Proof.Machine

/-- Step 1 of `WR16 CONTROL` (41_mmio_writes.md R181): the five flags other than read-enable. -/
def controlFlags (v : U16) (s : State) : State :=
  { s with
    breakpointEnabled := v.getLsbD s.cfg.controlBits.bpEnable.val
    hiWatermarkInterruptEnabled := v.getLsbD s.cfg.controlBits.hiInt.val
    loWatermarkInterruptEnabled := v.getLsbD s.cfg.controlBits.loInt.val
    linkEnabled := v.getLsbD s.cfg.controlBits.link.val
    breakpointInterruptEnabled := v.getLsbD s.cfg.controlBits.bpInt.val }

/-- Does the write take read-enable from true to false (41_mmio_writes.md R181)? -/
def controlFlushes (v : U16) (s : State) : Bool := s.readEnabled && !v.getLsbD s.cfg.controlBits.readEnable.val

/-- Step 3 of `WR16 CONTROL`. -/
def controlReadEnable (v : U16) (s : State) : State := { s with readEnabled := v.getLsbD s.cfg.controlBits.readEnable.val }

/-- `WR16 CONTROL` (41_mmio_writes.md R181). With a falling edge of read-enable: the five other flags, the flush with `read_enabled` still true,
then `read_enabled`, and consumer-side operations may fall between the steps. Without one the write is a single atomic step (20_memory.md
R68, R72). -/
def controlWrite (v : U16) (s : State) : State :=
  if controlFlushes v s then
    let s1 := between s.interleaved.after1 (controlFlags v s)
    let s2 := between s.interleaved.after2 (callFlush s1)
    controlReadEnable v s2
  else controlReadEnable v (controlFlags v s)

/-- `WR16 STATUS` (41_mmio_writes.md R180). -/
def execWr16Status (_v : U16) (s : State) : Result := busWriteIgnored s

/-- `WR16 CONTROL` (41_mmio_writes.md R181). -/
def execWr16Control (v : U16) (s : State) : Result := busWrite s (controlWrite v s)

/-- `WR16 CLEAR` (41_mmio_writes.md R182). -/
def execWr16Clear (_v : U16) (s : State) : Result := busWriteIgnored s

/-- `WR16 PERF_SELECT` (41_mmio_writes.md R183). -/
def execWr16PerfSelect (_v : U16) (s : State) : Result := busWriteIgnored s

/-- `WR16 TOKEN` (41_mmio_writes.md R185). -/
def execWr16Token (v : U16) (s : State) : Result := busWrite s { s with token := maskedWrite s.cfg freeMask s.token v }

/-- `WR16 BBOX_LEFT` (41_mmio_writes.md R186). -/
def execWr16BboxLeft (_v : U16) (s : State) : Result := busWriteIgnored s

/-- `WR16 BBOX_RIGHT` (41_mmio_writes.md R187). -/
def execWr16BboxRight (_v : U16) (s : State) : Result := busWriteIgnored s

/-- `WR16 BBOX_TOP` (41_mmio_writes.md R188). -/
def execWr16BboxTop (_v : U16) (s : State) : Result := busWriteIgnored s

/-- `WR16 BBOX_BOTTOM` (41_mmio_writes.md R189). -/
def execWr16BboxBottom (_v : U16) (s : State) : Result := busWriteIgnored s

/-- `WR16 FIFO_BASE_LO` (41_mmio_writes.md R190). -/
def execWr16FifoBaseLo (v : U16) (s : State) : Result := busWrite s { s with base := writeLo s.cfg s.base v }

/-- `WR16 FIFO_BASE_HI` (41_mmio_writes.md R191). -/
def execWr16FifoBaseHi (v : U16) (s : State) : Result := busWrite s { s with base := writeHi s.cfg s.base v }

/-- `WR16 FIFO_END_LO` (41_mmio_writes.md R192). -/
def execWr16FifoEndLo (v : U16) (s : State) : Result := busWrite s { s with endAddr := writeLo s.cfg s.endAddr v }

/-- `WR16 FIFO_END_HI` (41_mmio_writes.md R193). -/
def execWr16FifoEndHi (v : U16) (s : State) : Result := busWrite s { s with endAddr := writeHi s.cfg s.endAddr v }

/-- `WR16 FIFO_HI_WATERMARK_LO` (41_mmio_writes.md R194). -/
def execWr16FifoHiWatermarkLo (v : U16) (s : State) : Result := busWrite s { s with hiWatermark := writeLo s.cfg s.hiWatermark v }

/-- `WR16 FIFO_HI_WATERMARK_HI` (41_mmio_writes.md R195). -/
def execWr16FifoHiWatermarkHi (v : U16) (s : State) : Result := busWrite s { s with hiWatermark := writeHi s.cfg s.hiWatermark v }

/-- `WR16 FIFO_LO_WATERMARK_LO` (41_mmio_writes.md R196). -/
def execWr16FifoLoWatermarkLo (v : U16) (s : State) : Result := busWrite s { s with loWatermark := writeLo s.cfg s.loWatermark v }

/-- `WR16 FIFO_LO_WATERMARK_HI` (41_mmio_writes.md R197). -/
def execWr16FifoLoWatermarkHi (v : U16) (s : State) : Result := busWrite s { s with loWatermark := writeHi s.cfg s.loWatermark v }

/-- `WR16 FIFO_RW_DISTANCE_LO` (41_mmio_writes.md R198). -/
def execWr16FifoRwDistanceLo (v : U16) (s : State) : Result := busWrite s { s with distance := writeLo s.cfg s.distance v }

/-- `WR16 FIFO_RW_DISTANCE_HI` (41_mmio_writes.md R199). -/
def execWr16FifoRwDistanceHi (v : U16) (s : State) : Result := busWrite s { s with distance := writeHi s.cfg s.distance v }

/-- `WR16 FIFO_WRITE_POINTER_LO` (41_mmio_writes.md R200). -/
def execWr16FifoWritePointerLo (v : U16) (s : State) : Result := busWrite s { s with writePointer := writeLo s.cfg s.writePointer v }

/-- `WR16 FIFO_WRITE_POINTER_HI` (41_mmio_writes.md R201). -/
def execWr16FifoWritePointerHi (v : U16) (s : State) : Result := busWrite s { s with writePointer := writeHi s.cfg s.writePointer v }

/-- `WR16 FIFO_READ_POINTER_LO` (41_mmio_writes.md R202). -/
def execWr16FifoReadPointerLo (v : U16) (s : State) : Result := busWrite s { s with readPointer := writeLo s.cfg s.readPointer v }

/-- `WR16 FIFO_READ_POINTER_HI` (41_mmio_writes.md R203). -/
def execWr16FifoReadPointerHi (v : U16) (s : State) : Result := busWrite s { s with readPointer := writeHi s.cfg s.readPointer v }

/-- `WR16 FIFO_BP_LO` (41_mmio_writes.md R204). -/
def execWr16FifoBpLo (v : U16) (s : State) : Result := busWrite s { s with breakpoint := writeLo s.cfg s.breakpoint v }

/-- `WR16 FIFO_BP_HI` (41_mmio_writes.md R205). -/
def execWr16FifoBpHi (v : U16) (s : State) : Result := busWrite s { s with breakpoint := writeHi s.cfg s.breakpoint v }

/-- `WR16 METRIC_00` (41_mmio_writes.md R206). -/
def execWr16Metric00 (_v : U16) (s : State) : Result := busWriteIgnored s

/-- `WR16 METRIC_01` (41_mmio_writes.md R207). -/
def execWr16Metric01 (_v : U16) (s : State) : Result := busWriteIgnored s

/-- `WR16 METRIC_02` (41_mmio_writes.md R208). -/
def execWr16Metric02 (_v : U16) (s : State) : Result := busWriteIgnored s

/-- `WR16 METRIC_03` (41_mmio_writes.md R209). -/
def execWr16Metric03 (_v : U16) (s : State) : Result := busWriteIgnored s

/-- `WR16 METRIC_04` (41_mmio_writes.md R210). -/
def execWr16Metric04 (_v : U16) (s : State) : Result := busWriteIgnored s

/-- `WR16 METRIC_05` (41_mmio_writes.md R211). -/
def execWr16Metric05 (_v : U16) (s : State) : Result := busWriteIgnored s

/-- `WR16 METRIC_06` (41_mmio_writes.md R212). -/
def execWr16Metric06 (_v : U16) (s : State) : Result := busWriteIgnored s

/-- `WR16 METRIC_07` (41_mmio_writes.md R213). -/
def execWr16Metric07 (_v : U16) (s : State) : Result := busWriteIgnored s

/-- `WR16 METRIC_08` (41_mmio_writes.md R214). -/
def execWr16Metric08 (_v : U16) (s : State) : Result := busWriteIgnored s

/-- `WR16 METRIC_09` (41_mmio_writes.md R215). -/
def execWr16Metric09 (_v : U16) (s : State) : Result := busWriteIgnored s

/-- `WR16 METRIC_10` (41_mmio_writes.md R216). -/
def execWr16Metric10 (_v : U16) (s : State) : Result := busWriteIgnored s

/-- `WR16 METRIC_11` (41_mmio_writes.md R217). -/
def execWr16Metric11 (_v : U16) (s : State) : Result := busWriteIgnored s

/-- `WR16 METRIC_12` (41_mmio_writes.md R218). -/
def execWr16Metric12 (_v : U16) (s : State) : Result := busWriteIgnored s

/-- `WR16 METRIC_13` (41_mmio_writes.md R219). -/
def execWr16Metric13 (_v : U16) (s : State) : Result := busWriteIgnored s

/-- `WR16 METRIC_14` (41_mmio_writes.md R220). -/
def execWr16Metric14 (_v : U16) (s : State) : Result := busWriteIgnored s

/-- `WR16 METRIC_15` (41_mmio_writes.md R221). -/
def execWr16Metric15 (_v : U16) (s : State) : Result := busWriteIgnored s

/-- `WR16 METRIC_16` (41_mmio_writes.md R222). -/
def execWr16Metric16 (_v : U16) (s : State) : Result := busWriteIgnored s

/-- `WR16` to a further register of the metrics block (30_encoding.md R99): rejected. -/
def execWr16FurtherMetric (_v : U16) (s : State) : Result := busWriteIgnored s

/-- `WR16` to an even offset that is not in the register map (41_mmio_writes.md R223). -/
def execWr16Unmapped (_off : U8) (_v : U16) (s : State) : Result := busWriteIgnored s

end Sys2Proof.Machine
end

