-- ==== Sys2Proof/Machine/SnapshotReset.lean ====
section
/-! DEFINITION. SnapshotReset.lean: the host's operations (45_snapshot.md, 70_reset_and_hazards.md R330). -/

namespace Sys2Proof.Machine

/-- The pair `(core, queue)` of the current state (45_snapshot.md R287). -/
def takeSnapshot (s : State) : Snapshot := { core := s.toSavedCore, queue := s.eventQueue }

/-- Every field of 45_snapshot.md R286 and the queue from the snapshot; the link state and `fault` stay (R288). -/
def installSnapshot (snap : Snapshot) (s : State) : State := { s with toSavedCore := snap.core, eventQueue := snap.queue }

/-- `SNAPSHOT_SAVE` (45_snapshot.md R287). -/
def execSnapshotSave (s : State) : Result := whenRunning s (.next { s with saved := some (takeSnapshot s) })

/-- `SNAPSHOT_RESTORE s` (45_snapshot.md R288). -/
def execSnapshotRestore (snap : Snapshot) (s : State) : Result := whenRunning s (.next (installSnapshot snap s))

/-- `RESET` (70_reset_and_hazards.md R330): accepted in every state. -/
def execReset (s : State) : Result := .next (resetTracker s)

end Sys2Proof.Machine
end

