-- ==== Sys2Proof/Machine/Dispatch.lean ====
section
/-! DEFINITION. Dispatch.lean: the meaning of every operation, one arm per constructor of Instr. -/

namespace Sys2Proof.Machine

def exec (i : Instr) (s : State) : Host.Outcome State Fault Refusal :=
  match i with
  | .rd16Status => Sys2Proof.Machine.execRd16Status s
  | .wr16Status v => Sys2Proof.Machine.execWr16Status v s
  | .rd16Control => Sys2Proof.Machine.execRd16Control s
  | .wr16Control v => Sys2Proof.Machine.execWr16Control v s
  | .rd16Clear => Sys2Proof.Machine.execRd16Clear s
  | .wr16Clear v => Sys2Proof.Machine.execWr16Clear v s
  | .rd16PerfSelect => Sys2Proof.Machine.execRd16PerfSelect s
  | .wr16PerfSelect v => Sys2Proof.Machine.execWr16PerfSelect v s
  | .rd16Token => Sys2Proof.Machine.execRd16Token s
  | .wr16Token v => Sys2Proof.Machine.execWr16Token v s
  | .rd16BboxLeft => Sys2Proof.Machine.execRd16BboxLeft s
  | .wr16BboxLeft v => Sys2Proof.Machine.execWr16BboxLeft v s
  | .rd16BboxRight => Sys2Proof.Machine.execRd16BboxRight s
  | .wr16BboxRight v => Sys2Proof.Machine.execWr16BboxRight v s
  | .rd16BboxTop => Sys2Proof.Machine.execRd16BboxTop s
  | .wr16BboxTop v => Sys2Proof.Machine.execWr16BboxTop v s
  | .rd16BboxBottom => Sys2Proof.Machine.execRd16BboxBottom s
  | .wr16BboxBottom v => Sys2Proof.Machine.execWr16BboxBottom v s
  | .rd16FifoBaseLo => Sys2Proof.Machine.execRd16FifoBaseLo s
  | .wr16FifoBaseLo v => Sys2Proof.Machine.execWr16FifoBaseLo v s
  | .rd16FifoBaseHi => Sys2Proof.Machine.execRd16FifoBaseHi s
  | .wr16FifoBaseHi v => Sys2Proof.Machine.execWr16FifoBaseHi v s
  | .rd16FifoEndLo => Sys2Proof.Machine.execRd16FifoEndLo s
  | .wr16FifoEndLo v => Sys2Proof.Machine.execWr16FifoEndLo v s
  | .rd16FifoEndHi => Sys2Proof.Machine.execRd16FifoEndHi s
  | .wr16FifoEndHi v => Sys2Proof.Machine.execWr16FifoEndHi v s
  | .rd16FifoHiWatermarkLo => Sys2Proof.Machine.execRd16FifoHiWatermarkLo s
  | .wr16FifoHiWatermarkLo v => Sys2Proof.Machine.execWr16FifoHiWatermarkLo v s
  | .rd16FifoHiWatermarkHi => Sys2Proof.Machine.execRd16FifoHiWatermarkHi s
  | .wr16FifoHiWatermarkHi v => Sys2Proof.Machine.execWr16FifoHiWatermarkHi v s
  | .rd16FifoLoWatermarkLo => Sys2Proof.Machine.execRd16FifoLoWatermarkLo s
  | .wr16FifoLoWatermarkLo v => Sys2Proof.Machine.execWr16FifoLoWatermarkLo v s
  | .rd16FifoLoWatermarkHi => Sys2Proof.Machine.execRd16FifoLoWatermarkHi s
  | .wr16FifoLoWatermarkHi v => Sys2Proof.Machine.execWr16FifoLoWatermarkHi v s
  | .rd16FifoRwDistanceLo => Sys2Proof.Machine.execRd16FifoRwDistanceLo s
  | .wr16FifoRwDistanceLo v => Sys2Proof.Machine.execWr16FifoRwDistanceLo v s
  | .rd16FifoRwDistanceHi => Sys2Proof.Machine.execRd16FifoRwDistanceHi s
  | .wr16FifoRwDistanceHi v => Sys2Proof.Machine.execWr16FifoRwDistanceHi v s
  | .rd16FifoWritePointerLo => Sys2Proof.Machine.execRd16FifoWritePointerLo s
  | .wr16FifoWritePointerLo v => Sys2Proof.Machine.execWr16FifoWritePointerLo v s
  | .rd16FifoWritePointerHi => Sys2Proof.Machine.execRd16FifoWritePointerHi s
  | .wr16FifoWritePointerHi v => Sys2Proof.Machine.execWr16FifoWritePointerHi v s
  | .rd16FifoReadPointerLo => Sys2Proof.Machine.execRd16FifoReadPointerLo s
  | .wr16FifoReadPointerLo v => Sys2Proof.Machine.execWr16FifoReadPointerLo v s
  | .rd16FifoReadPointerHi => Sys2Proof.Machine.execRd16FifoReadPointerHi s
  | .wr16FifoReadPointerHi v => Sys2Proof.Machine.execWr16FifoReadPointerHi v s
  | .rd16FifoBpLo => Sys2Proof.Machine.execRd16FifoBpLo s
  | .wr16FifoBpLo v => Sys2Proof.Machine.execWr16FifoBpLo v s
  | .rd16FifoBpHi => Sys2Proof.Machine.execRd16FifoBpHi s
  | .wr16FifoBpHi v => Sys2Proof.Machine.execWr16FifoBpHi v s
  | .rd16Metric00 => Sys2Proof.Machine.execRd16Metric00 s
  | .wr16Metric00 v => Sys2Proof.Machine.execWr16Metric00 v s
  | .rd16Metric01 => Sys2Proof.Machine.execRd16Metric01 s
  | .wr16Metric01 v => Sys2Proof.Machine.execWr16Metric01 v s
  | .rd16Metric02 => Sys2Proof.Machine.execRd16Metric02 s
  | .wr16Metric02 v => Sys2Proof.Machine.execWr16Metric02 v s
  | .rd16Metric03 => Sys2Proof.Machine.execRd16Metric03 s
  | .wr16Metric03 v => Sys2Proof.Machine.execWr16Metric03 v s
  | .rd16Metric04 => Sys2Proof.Machine.execRd16Metric04 s
  | .wr16Metric04 v => Sys2Proof.Machine.execWr16Metric04 v s
  | .rd16Metric05 => Sys2Proof.Machine.execRd16Metric05 s
  | .wr16Metric05 v => Sys2Proof.Machine.execWr16Metric05 v s
  | .rd16Metric06 => Sys2Proof.Machine.execRd16Metric06 s
  | .wr16Metric06 v => Sys2Proof.Machine.execWr16Metric06 v s
  | .rd16Metric07 => Sys2Proof.Machine.execRd16Metric07 s
  | .wr16Metric07 v => Sys2Proof.Machine.execWr16Metric07 v s
  | .rd16Metric08 => Sys2Proof.Machine.execRd16Metric08 s
  | .wr16Metric08 v => Sys2Proof.Machine.execWr16Metric08 v s
  | .rd16Metric09 => Sys2Proof.Machine.execRd16Metric09 s
  | .wr16Metric09 v => Sys2Proof.Machine.execWr16Metric09 v s
  | .rd16Metric10 => Sys2Proof.Machine.execRd16Metric10 s
  | .wr16Metric10 v => Sys2Proof.Machine.execWr16Metric10 v s
  | .rd16Metric11 => Sys2Proof.Machine.execRd16Metric11 s
  | .wr16Metric11 v => Sys2Proof.Machine.execWr16Metric11 v s
  | .rd16Metric12 => Sys2Proof.Machine.execRd16Metric12 s
  | .wr16Metric12 v => Sys2Proof.Machine.execWr16Metric12 v s
  | .rd16Metric13 => Sys2Proof.Machine.execRd16Metric13 s
  | .wr16Metric13 v => Sys2Proof.Machine.execWr16Metric13 v s
  | .rd16Metric14 => Sys2Proof.Machine.execRd16Metric14 s
  | .wr16Metric14 v => Sys2Proof.Machine.execWr16Metric14 v s
  | .rd16Metric15 => Sys2Proof.Machine.execRd16Metric15 s
  | .wr16Metric15 v => Sys2Proof.Machine.execWr16Metric15 v s
  | .rd16Metric16 => Sys2Proof.Machine.execRd16Metric16 s
  | .wr16Metric16 v => Sys2Proof.Machine.execWr16Metric16 v s
  | .burst size => Sys2Proof.Machine.execBurst size s
  | .evalGpu => Sys2Proof.Machine.execEvalGpu s
  | .deliver => Sys2Proof.Machine.execDeliver s
  | .consRpSet v => Sys2Proof.Machine.execConsRpSet v s
  | .consDistSub n => Sys2Proof.Machine.execConsDistSub n s
  | .consSafePublish v => Sys2Proof.Machine.execConsSafePublish v s
  | .consBboxSet l r t b => Sys2Proof.Machine.execConsBboxSet l r t b s
  | .snapshotSave => Sys2Proof.Machine.execSnapshotSave s
  | .snapshotRestore snap => Sys2Proof.Machine.execSnapshotRestore snap s
  | .reset => Sys2Proof.Machine.execReset s

end Sys2Proof.Machine
end

