-- ==== Sys2Proof/Machine/Issue.lean ====
section
/-! DEFINITION. Issue.lean: how the tracker takes the next issued operation (10_state.md R47; log 1), and what it does with what the word
spells. -/

namespace Sys2Proof.Machine

/-- The state in which the operation issued first is performed: it is taken from the list and its inputs are set. -/
def acceptIssued (op : Issued) (rest : List Issued) (s : State) : State :=
  { s with consAtBreakpoint := op.consAtBreakpoint, interleaved := op.interleaved, issued := rest }

/-- An operation, the accesses that have no row of the table included (30_encoding.md R106). -/
def runOperation (op : Operation) (s : State) : Result :=
  match op with
  | .instr i => exec i s
  | .metricRead _ k => execRd16FurtherMetric k s
  | .metricWrite _ v => execWr16FurtherMetric v s
  | .unmappedRead off => execRd16Unmapped off s
  | .unmappedWrite off v => execWr16Unmapped off v s

/-- Perform one issued operation (30_encoding.md R106). -/
def performIssued (op : Issued) (rest : List Issued) (s : State) : Result :=
  match decode s.cfg op.word op.beside with
  | .ok o => runOperation o (acceptIssued op rest s)
  | .error e => .refused (.undecodable e)

/-- `s` with one more operation issued, before all others, its inputs those the state holds. -/
def issueFirst (word : U32) (beside : Beside) (s : State) : State :=
  { s with issued := { word := word, beside := beside, consAtBreakpoint := s.consAtBreakpoint, interleaved := s.interleaved } :: s.issued }

end Sys2Proof.Machine
end

