-- ==== Sys2Proof/Machine/Step.lean ====
section
/-! DEFINITION. Step.lean: one step of the machine: the next issued operation is performed; with none issued nothing happens (10_state.md R47,
44_interrupt_evaluator.md R278; log 1). -/

namespace Sys2Proof.Machine

/-- One step. -/
def step (s : State) : Host.Outcome State Fault Refusal :=
  match s.issued with
  | [] => .next s
  | op :: rest => performIssued op rest s

/-- `s` with the operation of a table word issued as the next one, its operands zero. -/
def State.withFetchWord (s : State) (nbits w : Nat) : State :=
  issueFirst (tableWord nbits w) (zeroBeside (tableWord nbits w)) s

end Sys2Proof.Machine
end

