-- ==== Sys2Proof/Machine/Pseudo.lean ====
section
/-! DEFINITION. Pseudo.lean: the pseudo-operations (30_encoding.md R102), each as its expansion, and the result of `RD32`. -/

namespace Sys2Proof.Machine

/-- One operation after another, stopping at the first fault or refusal. -/
def runInstrs : List Instr → State → Result
  | [], s => .next s
  | i :: rest, s =>
    match exec i s with
    | .next t => runInstrs rest t
    | .fault e => .fault e
    | .refused e => .refused e

/-- The eight 32-bit fields with two mapped halves (30_encoding.md R94). -/
inductive SplitField where
  | fifoBase
  | fifoEnd
  | fifoHiWatermark
  | fifoLoWatermark
  | fifoRwDistance
  | fifoWritePointer
  | fifoReadPointer
  | fifoBp
deriving DecidableEq, Repr

/-- The `_LO` register of a split field. -/
def loReg : SplitField → Reg
  | .fifoBase => .fifoBaseLo
  | .fifoEnd => .fifoEndLo
  | .fifoHiWatermark => .fifoHiWatermarkLo
  | .fifoLoWatermark => .fifoLoWatermarkLo
  | .fifoRwDistance => .fifoRwDistanceLo
  | .fifoWritePointer => .fifoWritePointerLo
  | .fifoReadPointer => .fifoReadPointerLo
  | .fifoBp => .fifoBpLo

/-- The `_HI` register of a split field. -/
def hiReg : SplitField → Reg
  | .fifoBase => .fifoBaseHi
  | .fifoEnd => .fifoEndHi
  | .fifoHiWatermark => .fifoHiWatermarkHi
  | .fifoLoWatermark => .fifoLoWatermarkHi
  | .fifoRwDistance => .fifoRwDistanceHi
  | .fifoWritePointer => .fifoWritePointerHi
  | .fifoReadPointer => .fifoReadPointerHi
  | .fifoBp => .fifoBpHi

/-- The field of the descriptor behind a split field. -/
def splitValue (f : SplitField) (d : Descriptor) : U32 :=
  match f with
  | .fifoBase => d.base
  | .fifoEnd => d.endAddr
  | .fifoHiWatermark => d.hiWatermark
  | .fifoLoWatermark => d.loWatermark
  | .fifoRwDistance => d.distance
  | .fifoWritePointer => d.writePointer
  | .fifoReadPointer => d.readPointer
  | .fifoBp => d.breakpoint

/-- `WR32 f, v` (30_encoding.md R102). -/
def wr32 (f : SplitField) (v : U32) : List Instr := [writeInstr (loReg f) (lo16 v), writeInstr (hiReg f) (hi16 v)]

/-- `RD32 f` (30_encoding.md R102). -/
def rd32 (f : SplitField) : List Instr := [readInstr (loReg f), readInstr (hiReg f)]

/-- The result `{ hi, lo }` of `RD32` from what its two reads returned (30_encoding.md R102). -/
def rd32Result (lo hi : Option U16) : Option U32 :=
  match lo, hi with
  | some l, some h => some (join h l)
  | some _, none => none
  | none, _ => none

/-- The result of `RD32 f` (30_encoding.md R102) with the operations `middle` between its two reads: it is not atomic (20_memory.md R68,
40_mmio_reads.md R178). No result where an operation stops. -/
def rd32Value (f : SplitField) (middle : List Instr) (s : State) : Option U32 :=
  match exec (readInstr (loReg f)) s with
  | .fault _ => none
  | .refused _ => none
  | .next t =>
    match runInstrs middle t with
    | .fault _ => none
    | .refused _ => none
    | .next u =>
      match exec (readInstr (hiReg f)) u with
      | .fault _ => none
      | .refused _ => none
      | .next v => rd32Result t.readData v.readData

/-- `DRAIN n` in a state (30_encoding.md R102, 43_consumer_port.md R260). -/
def drain (n : U32) (s : State) : List Instr :=
  [.consRpSet (wrapPointer s.base s.endAddr (s.readPointer + n)), .consDistSub n, .evalGpu]

/-- `PUBLISH` in a state (30_encoding.md R102). -/
def publish (s : State) : List Instr := [.consSafePublish s.readPointer]

end Sys2Proof.Machine
end

