-- ==== Sys2Proof/Safety.lean ====
section
/-! DEFINITION. Safety.lean: what counts as a safe state and a safe run, and the words the statements use. -/

namespace Sys2Proof.Machine

/-- No fatal condition is recorded (60_exceptions.md R297): the premise of every claim about a working tracker. -/
def Running (s : State) : Prop := s.fault = none

/-- No consumer-side operation falls between two numbered steps of the current operation (20_memory.md R72). -/
def NothingBetween (s : State) : Prop :=
  s.cfg.dualThread = false ∨
    (s.interleaved.after1 = [] ∧ s.interleaved.after2a = [] ∧ s.interleaved.after2 = [] ∧ s.interleaved.after3 = [] ∧
      s.interleaved.after4 = [] ∧ s.interleaved.after5 = [] ∧ s.interleaved.after6 = [])

/-- No consumer-side operation falls inside the current operation, its flush included. -/
def NothingInside (s : State) : Prop := NothingBetween s ∧ s.interleaved.flush = []

/-- The consumer-side operations that may fall inside the current operation. -/
def Interleaving.ops (f : Interleaving) : List ConsumerOp :=
  f.flush ++ f.after1 ++ f.after2a ++ f.after2 ++ f.after3 ++ f.after4 ++ f.after5 ++ f.after6

/-- The capacity in bytes of the region `[base, end)` (10_state.md R21). -/
def capacity (d : Descriptor) : Nat := d.endAddr.toNat - d.base.toNat

/-- The source's invariants of a programmed queue (10_state.md R21, R22, R25): duties of software, not of the tracker. -/
def QueueOk (d : Descriptor) : Prop :=
  d.base.toNat < d.endAddr.toNat ∧ d.base.toNat ≤ d.writePointer.toNat ∧ d.writePointer.toNat < d.endAddr.toNat ∧
    d.distance.toNat ≤ capacity d

/-- The alignment duty for a burst size (70_reset_and_hazards.md R346). -/
def BurstAligned (size : Nat) (d : Descriptor) : Prop :=
  (d.writePointer.toNat - d.base.toNat) % size = 0 ∧ capacity d % size = 0

/-- The latch pair and the queue agree (44_interrupt_evaluator.md R275): nothing pending and an empty queue, or a pending change and exactly
one queued level, the opposite of the line. -/
def mailboxAgrees (pending asserted : Bool) (queue : List Bool) : Bool :=
  if pending then queue == [!asserted] else queue == []

/-- The invariant of the mailbox (44_interrupt_evaluator.md R275), its single-thread form included. -/
def Mailbox (s : State) : Prop :=
  mailboxAgrees s.interruptChangePending s.interruptAsserted s.eventQueue = true ∧
    (s.cfg.dualThread = false → s.interruptChangePending = false)

/-- A snapshot taken from a state that had the mailbox invariant in the given execution mode (44_interrupt_evaluator.md R275). -/
def snapshotAgrees (dualThread : Bool) (snap : Snapshot) : Bool :=
  mailboxAgrees snap.core.interruptChangePending snap.core.interruptAsserted snap.queue && (dualThread || !snap.core.interruptChangePending)

/-- Every snapshot among the operands of the issued operations agrees. -/
def IssuedAgree (s : State) : Prop :=
  ∀ op ∈ s.issued, ∀ snap, op.beside = .snapshot snap → snapshotAgrees s.cfg.dualThread snap = true

/-- The level the interrupt-line sink was last told in a list of events, if it was told one (60_exceptions.md R303). -/
def lastLevel : List Event → Option Bool
  | [] => none
  | .setInterrupt _ level :: rest => (lastLevel rest).or (some level)
  | .excCheck :: rest => lastLevel rest
  | .runGpu :: rest => lastLevel rest
  | .flushGpu :: rest => lastLevel rest
  | .schedule _ :: rest => lastLevel rest
  | .fatal _ _ :: rest => lastLevel rest

/-- The low five bits that no bus write can set (00_scope.md R10) are 0 in every field with mapped halves. -/
def Aligned32 (d : Descriptor) : Prop :=
  ∀ f : SplitField, (splitValue f d).toNat % 32 = 0

/-- The two states hold the same hardware state (the record of 10_state.md R56) and configuration. -/
def SameTracker (s t : State) : Prop :=
  s.toSavedCore = t.toSavedCore ∧ s.eventQueue = t.eventQueue ∧ s.linkBase = t.linkBase ∧ s.linkEnd = t.linkEnd ∧
    s.linkWritePointer = t.linkWritePointer ∧ s.fault = t.fault ∧ s.cfg = t.cfg

/-- What stands beside the tracker in State is unchanged: configuration, read results, drawn values, inputs and issued operations. -/
def SameSurroundings (s t : State) : Prop :=
  s.cfg = t.cfg ∧ s.readData = t.readData ∧ s.saved = t.saved ∧ s.draws = t.draws ∧ s.consAtBreakpoint = t.consAtBreakpoint ∧
    s.interleaved = t.interleaved ∧ s.issued = t.issued

/-- What software owns and no agent but the CPU side's register writes and the host changes (10_state.md R50): bounds, thresholds,
breakpoint address, the six enables and the token. -/
def SameProgramming (s t : State) : Prop :=
  s.base = t.base ∧ s.endAddr = t.endAddr ∧ s.hiWatermark = t.hiWatermark ∧ s.loWatermark = t.loWatermark ∧ s.breakpoint = t.breakpoint ∧
    s.linkEnabled = t.linkEnabled ∧ s.readEnabled = t.readEnabled ∧ s.breakpointEnabled = t.breakpointEnabled ∧
    s.breakpointInterruptEnabled = t.breakpointInterruptEnabled ∧
    s.hiWatermarkInterruptEnabled = t.hiWatermarkInterruptEnabled ∧
    s.loWatermarkInterruptEnabled = t.loWatermarkInterruptEnabled ∧ s.token = t.token

/-- The link state (10_state.md R42) is unchanged. -/
def SameLinkState (s t : State) : Prop :=
  s.linkBase = t.linkBase ∧ s.linkEnd = t.linkEnd ∧ s.linkWritePointer = t.linkWritePointer

/-- The bounding box (10_state.md R39) is unchanged. -/
def SameBox (s t : State) : Prop :=
  s.bboxLeft = t.bboxLeft ∧ s.bboxRight = t.bboxRight ∧ s.bboxTop = t.bboxTop ∧ s.bboxBottom = t.bboxBottom

/-- The latch pair and the event queue (10_state.md R40, R41) are unchanged. -/
def SameMailbox (s t : State) : Prop :=
  s.interruptAsserted = t.interruptAsserted ∧ s.interruptChangePending = t.interruptChangePending ∧ s.eventQueue = t.eventQueue

/-- The three hit flags (10_state.md R32, R35, R36) are unchanged. -/
def SameHits (s t : State) : Prop :=
  s.breakpointHit = t.breakpointHit ∧ s.hiWatermarkHit = t.hiWatermarkHit ∧ s.loWatermarkHit = t.loWatermarkHit

end Sys2Proof.Machine
end

