-- ==== Sys2Proof/Certificates/Slice0/Obligations.lean ====
section
/-! DEFINITION. Obligations.lean: the statements about the model, for the provers. A docstring names the rule of spec/ a statement formalises,
or says that the clause is a decision of the spec (D<n>) or a choice of the model (log <n>). -/

open Sys2Proof Sys2Proof.Machine

/-! ## Reset -/

/-- 10_state.md R52. -/
def Obligations.ResetClearsEveryFlag : Prop :=
  ∀ c : Config,
    (State.resetOf c).linkEnabled = false ∧ (State.resetOf c).readEnabled = false ∧ (State.resetOf c).breakpointEnabled = false ∧
    (State.resetOf c).breakpointInterruptEnabled = false ∧ (State.resetOf c).breakpointHit = false ∧
    (State.resetOf c).hiWatermarkInterruptEnabled = false ∧ (State.resetOf c).loWatermarkInterruptEnabled = false ∧
    (State.resetOf c).hiWatermarkHit = false ∧ (State.resetOf c).loWatermarkHit = false ∧ State.reset = State.resetOf Config.default

/-- The reset values the spec decides (10_state.md sections 7, D14, D15; log 8, log 20); only `distance = 0` and the numbers of the box are
the source's. -/
def Obligations.ResetHoldsTheDecidedValues : Prop :=
  ∀ c : Config, ∀ s : State, s = State.resetOf c →
    s.base = 0 ∧ s.endAddr = 0 ∧ s.writePointer = 0 ∧ s.readPointer = 0 ∧ s.safeReadPointer = 0 ∧ s.distance = 0 ∧ s.hiWatermark = 0 ∧
    s.loWatermark = 0 ∧ s.breakpoint = 0 ∧ s.bboxLeft = 0 ∧ s.bboxRight = 640 ∧ s.bboxTop = 0 ∧ s.bboxBottom = 480 ∧ s.token = 0 ∧
    s.interruptAsserted = false ∧ s.interruptChangePending = false ∧ s.eventQueue = [] ∧ s.linkBase = 0 ∧ s.linkEnd = 0 ∧
    s.linkWritePointer = 0 ∧ s.fault = none

/-- `RESET` from every state, a halted one included (70_reset_and_hazards.md section 1, D14): the record of 10_state.md R56 takes its
reset values and nothing is emitted; that the model's own fields and the output trace stay is the model's choice (log 7). -/
def Obligations.ResetOperationGivesTheResetState : Prop :=
  ∀ s : State, ∃ t : State, exec .reset s = .next t ∧ SameTracker (State.resetOf s.cfg) t ∧ SameSurroundings s t ∧ t.out = s.out

/-! ## Register reads -/

/-- `RD16 STATUS` (40_mmio_reads.md section 1, D2, D17): the three stored hit flags, the two idle bits computed at the read, the other bits 0;
nothing but the value read changes. -/
def Obligations.StatusReadShowsHitsAndIdleBits : Prop :=
  ∀ s : State, Running s → s.cfg.statusBitsDistinct = true →
    ∃ w : U16, exec .rd16Status s = .next { s with readData := some w } ∧
      w.getLsbD s.cfg.statusBits.overflow.val = s.hiWatermarkHit ∧
      w.getLsbD s.cfg.statusBits.underflow.val = s.loWatermarkHit ∧
      w.getLsbD s.cfg.statusBits.readIdle.val = (decide (s.distance = 0#32) || decide (s.readPointer = s.writePointer)) ∧
      w.getLsbD s.cfg.statusBits.commandIdle.val = (decide (s.distance = 0#32) || s.consAtBreakpoint || !s.readEnabled) ∧
      w.getLsbD s.cfg.statusBits.breakpoint.val = s.breakpointHit ∧
      ∀ n : Fin 16, n ≠ s.cfg.statusBits.overflow → n ≠ s.cfg.statusBits.underflow → n ≠ s.cfg.statusBits.readIdle →
        n ≠ s.cfg.statusBits.commandIdle → n ≠ s.cfg.statusBits.breakpoint → w.getLsbD n.val = false

/-- `RD16 CONTROL` (40_mmio_reads.md section 1, D3): the six enable flags at their positions, the other bits 0. -/
def Obligations.ControlReadReassemblesTheEnables : Prop :=
  ∀ s : State, Running s → s.cfg.controlBitsDistinct = true →
    ∃ w : U16, exec .rd16Control s = .next { s with readData := some w } ∧
      w.getLsbD s.cfg.controlBits.readEnable.val = s.readEnabled ∧
      w.getLsbD s.cfg.controlBits.bpEnable.val = s.breakpointEnabled ∧
      w.getLsbD s.cfg.controlBits.hiInt.val = s.hiWatermarkInterruptEnabled ∧
      w.getLsbD s.cfg.controlBits.loInt.val = s.loWatermarkInterruptEnabled ∧
      w.getLsbD s.cfg.controlBits.link.val = s.linkEnabled ∧
      w.getLsbD s.cfg.controlBits.bpInt.val = s.breakpointInterruptEnabled ∧
      ∀ n : Fin 16, s.cfg.controlBits.mask.getLsbD n.val = false → w.getLsbD n.val = false

/-- What CONTROL reads after a write: the written value under `CTRL_MASK` (40_mmio_reads.md section 1, D3), whatever the consumer side does
during the write. -/
def Obligations.ControlReadsBackTheMaskedWrite : Prop :=
  ∀ (s : State) (v : U16), Running s → s.cfg.controlBitsDistinct = true →
    ∃ t, exec (.wr16Control v) s = .next t ∧ exec .rd16Control t = .next { t with readData := some (v &&& s.cfg.controlBits.mask) }

/-- CLEAR and the metrics registers, the further pairs of `METRICS` included, read as constants (40_mmio_reads.md sections 1 and 5, D4, D10). -/
def Obligations.ConstantRegistersReadTheirConstants : Prop :=
  ∀ s : State, Running s →
    exec .rd16Clear s = .next { s with readData := some s.cfg.clearReadValue } ∧
    exec .rd16Metric00 s = .next { s with readData := some s.cfg.metrics.m00 } ∧
    exec .rd16Metric01 s = .next { s with readData := some s.cfg.metrics.m01 } ∧
    exec .rd16Metric02 s = .next { s with readData := some s.cfg.metrics.m02 } ∧
    exec .rd16Metric03 s = .next { s with readData := some s.cfg.metrics.m03 } ∧
    exec .rd16Metric04 s = .next { s with readData := some s.cfg.metrics.m04 } ∧
    exec .rd16Metric05 s = .next { s with readData := some s.cfg.metrics.m05 } ∧
    exec .rd16Metric06 s = .next { s with readData := some s.cfg.metrics.m06 } ∧
    exec .rd16Metric07 s = .next { s with readData := some s.cfg.metrics.m07 } ∧
    exec .rd16Metric08 s = .next { s with readData := some s.cfg.metrics.m08 } ∧
    exec .rd16Metric09 s = .next { s with readData := some s.cfg.metrics.m09 } ∧
    exec .rd16Metric10 s = .next { s with readData := some s.cfg.metrics.m10 } ∧
    exec .rd16Metric11 s = .next { s with readData := some s.cfg.metrics.m11 } ∧
    exec .rd16Metric12 s = .next { s with readData := some s.cfg.metrics.m12 } ∧
    exec .rd16Metric13 s = .next { s with readData := some s.cfg.metrics.m13 } ∧
    exec .rd16Metric14 s = .next { s with readData := some s.cfg.metrics.m14 } ∧
    exec .rd16Metric15 s = .next { s with readData := some s.cfg.metrics.m15 } ∧
    exec .rd16Metric16 s = .next { s with readData := some s.cfg.metrics.m16 } ∧
    ∀ k, execRd16FurtherMetric k s = .next { s with readData := some k }

/-- `RD16 PERF_SELECT` completes with a free value (40_mmio_reads.md section 1, D11; log 6): the next value drawn, whatever it is. -/
def Obligations.RejectedReadReturnsADrawnValue : Prop :=
  ∀ s : State, Running s →
    exec .rd16PerfSelect s = .next { s with readData := some (Config.draw16 s.draws), draws := s.draws + 1 }

/-- 40_mmio_reads.md R134 to R138, with the default offset and the reset value each rule gives. -/
def Obligations.TokenAndBoxReadsAreDirect : Prop :=
  (∀ s : State, Running s →
    exec .rd16Token s = .next { s with readData := some s.token } ∧
    exec .rd16BboxLeft s = .next { s with readData := some s.bboxLeft } ∧
    exec .rd16BboxRight s = .next { s with readData := some s.bboxRight } ∧
    exec .rd16BboxTop s = .next { s with readData := some s.bboxTop } ∧
    exec .rd16BboxBottom s = .next { s with readData := some s.bboxBottom }) ∧
  (∀ s t : State, exec (.wr16Token 0xBEEF#16) s = .next t → exec .rd16Token t = .next { t with readData := some 0xBEEF#16 }) ∧
  (∀ s t : State, exec .reset s = .next t →
    exec .rd16BboxLeft t = .next { t with readData := some 0x0000#16 } ∧ exec .rd16BboxRight t = .next { t with readData := some 0x0280#16 } ∧
    exec .rd16BboxTop t = .next { t with readData := some 0x0000#16 } ∧ exec .rd16BboxBottom t = .next { t with readData := some 0x01E0#16 }) ∧
  offsetIn defaultOffsets .token = some 0x0E#8 ∧ offsetIn defaultOffsets .bboxLeft = some 0x10#8 ∧
  offsetIn defaultOffsets .bboxRight = some 0x12#8 ∧ offsetIn defaultOffsets .bboxTop = some 0x14#8 ∧
  offsetIn defaultOffsets .bboxBottom = some 0x16#8

/-- 40_mmio_reads.md R139 to R150: the half of the stored field, in both execution modes, with the default offset each rule gives. -/
def Obligations.DirectHalfReadsShowTheField : Prop :=
  (∀ s : State, Running s →
    exec .rd16FifoBaseLo s = .next { s with readData := some (s.base.extractLsb' 0 16) } ∧
    exec .rd16FifoBaseHi s = .next { s with readData := some (s.base.extractLsb' 16 16) } ∧
    exec .rd16FifoEndLo s = .next { s with readData := some (s.endAddr.extractLsb' 0 16) } ∧
    exec .rd16FifoEndHi s = .next { s with readData := some (s.endAddr.extractLsb' 16 16) } ∧
    exec .rd16FifoHiWatermarkLo s = .next { s with readData := some (s.hiWatermark.extractLsb' 0 16) } ∧
    exec .rd16FifoHiWatermarkHi s = .next { s with readData := some (s.hiWatermark.extractLsb' 16 16) } ∧
    exec .rd16FifoLoWatermarkLo s = .next { s with readData := some (s.loWatermark.extractLsb' 0 16) } ∧
    exec .rd16FifoLoWatermarkHi s = .next { s with readData := some (s.loWatermark.extractLsb' 16 16) } ∧
    exec .rd16FifoWritePointerLo s = .next { s with readData := some (s.writePointer.extractLsb' 0 16) } ∧
    exec .rd16FifoWritePointerHi s = .next { s with readData := some (s.writePointer.extractLsb' 16 16) } ∧
    exec .rd16FifoBpLo s = .next { s with readData := some (s.breakpoint.extractLsb' 0 16) } ∧
    exec .rd16FifoBpHi s = .next { s with readData := some (s.breakpoint.extractLsb' 16 16) }) ∧
  offsetIn defaultOffsets .fifoBaseLo = some 0x20#8 ∧ offsetIn defaultOffsets .fifoBaseHi = some 0x22#8 ∧
  offsetIn defaultOffsets .fifoEndLo = some 0x24#8 ∧ offsetIn defaultOffsets .fifoEndHi = some 0x26#8 ∧
  offsetIn defaultOffsets .fifoHiWatermarkLo = some 0x28#8 ∧ offsetIn defaultOffsets .fifoHiWatermarkHi = some 0x2A#8 ∧
  offsetIn defaultOffsets .fifoLoWatermarkLo = some 0x2C#8 ∧ offsetIn defaultOffsets .fifoLoWatermarkHi = some 0x2E#8 ∧
  offsetIn defaultOffsets .fifoWritePointerLo = some 0x34#8 ∧ offsetIn defaultOffsets .fifoWritePointerHi = some 0x36#8 ∧
  offsetIn defaultOffsets .fifoBpLo = some 0x3C#8 ∧ offsetIn defaultOffsets .fifoBpHi = some 0x3E#8

/-- The four mode-dependent reads (40_mmio_reads.md section 4, D7, D8): stored values in single-thread mode; in dual-thread mode the
published read pointer, and the distance computed from it. -/
def Obligations.ModeDependentReadsFollowTheMode : Prop :=
  ∀ s : State, Running s →
    (s.cfg.dualThread = false →
      exec .rd16FifoRwDistanceLo s = .next { s with readData := some (s.distance.extractLsb' 0 16) } ∧
      exec .rd16FifoRwDistanceHi s = .next { s with readData := some (s.distance.extractLsb' 16 16) } ∧
      exec .rd16FifoReadPointerLo s = .next { s with readData := some (s.readPointer.extractLsb' 0 16) } ∧
      exec .rd16FifoReadPointerHi s = .next { s with readData := some (s.readPointer.extractLsb' 16 16) }) ∧
    (s.cfg.dualThread = true →
      exec .rd16FifoReadPointerLo s = .next { s with readData := some (s.safeReadPointer.extractLsb' 0 16) } ∧
      exec .rd16FifoReadPointerHi s = .next { s with readData := some (s.safeReadPointer.extractLsb' 16 16) } ∧
      ∃ d : U32,
        (s.safeReadPointer.toNat ≤ s.writePointer.toNat → d = s.writePointer - s.safeReadPointer) ∧
        (s.writePointer.toNat < s.safeReadPointer.toNat →
          d = (s.endAddr - s.safeReadPointer) + (s.writePointer - s.base) + s.cfg.distWrapBias) ∧
        exec .rd16FifoRwDistanceLo s = .next { s with readData := some (d.extractLsb' 0 16) } ∧
        exec .rd16FifoRwDistanceHi s = .next { s with readData := some (d.extractLsb' 16 16) })

/-- 20_memory.md R69, 40_mmio_reads.md R177: no read of a register changes the tracker or emits an event, and a second read returns what
the first returned; PERF_SELECT and the unmapped offsets return drawn values and change nothing. -/
def Obligations.ReadsChangeNothingAndRepeat : Prop :=
  (∀ (r : Reg) (s t : State), exec (readInstr r) s = .next t → SameTracker s t ∧ t.out = s.out ∧ (r ≠ .perfSelect → exec (readInstr r) t = .next t)) ∧
  (∀ (k : U16) (s t : State), execRd16FurtherMetric k s = .next t →
    SameTracker s t ∧ t.out = s.out ∧ execRd16FurtherMetric k t = .next t) ∧
  (∀ (off : U8) (s t : State), execRd16Unmapped off s = .next t → SameTracker s t ∧ t.out = s.out)

/-! ## Register writes -/

/-- 41_mmio_writes.md R190 to R197, R200, R201, R204, R205 under the masked-write law (`MASKED_WRITE_KEEPS_OLD`, the spec's value true): the
other half and the masked-out bits stay, and nothing else changes. -/
def Obligations.HalfWritesMergeUnderTheMask : Prop :=
  (∀ (s : State) (v : U16), Running s → s.cfg.maskedWriteKeepsOld = true → ∀ lo hi : U32 → U32,
    lo = (fun f => f.extractLsb' 16 16 ++ ((f.extractLsb' 0 16 &&& 0x001F#16) ||| (v &&& 0xFFE0#16))) →
    hi = (fun f => ((f.extractLsb' 16 16 &&& ~~~s.cfg.hiMask) ||| (v &&& s.cfg.hiMask)) ++ f.extractLsb' 0 16) →
    exec (.wr16FifoBaseLo v) s = .next { s with base := lo s.base } ∧
    exec (.wr16FifoBaseHi v) s = .next { s with base := hi s.base } ∧
    exec (.wr16FifoEndLo v) s = .next { s with endAddr := lo s.endAddr } ∧
    exec (.wr16FifoEndHi v) s = .next { s with endAddr := hi s.endAddr } ∧
    exec (.wr16FifoHiWatermarkLo v) s = .next { s with hiWatermark := lo s.hiWatermark } ∧
    exec (.wr16FifoHiWatermarkHi v) s = .next { s with hiWatermark := hi s.hiWatermark } ∧
    exec (.wr16FifoLoWatermarkLo v) s = .next { s with loWatermark := lo s.loWatermark } ∧
    exec (.wr16FifoLoWatermarkHi v) s = .next { s with loWatermark := hi s.loWatermark } ∧
    exec (.wr16FifoWritePointerLo v) s = .next { s with writePointer := lo s.writePointer } ∧
    exec (.wr16FifoWritePointerHi v) s = .next { s with writePointer := hi s.writePointer } ∧
    exec (.wr16FifoBpLo v) s = .next { s with breakpoint := lo s.breakpoint } ∧
    exec (.wr16FifoBpHi v) s = .next { s with breakpoint := hi s.breakpoint }) ∧
  offsetIn defaultOffsets .fifoBaseLo = some 0x20#8 ∧ offsetIn defaultOffsets .fifoBaseHi = some 0x22#8 ∧
  offsetIn defaultOffsets .fifoEndLo = some 0x24#8 ∧ offsetIn defaultOffsets .fifoEndHi = some 0x26#8 ∧
  offsetIn defaultOffsets .fifoHiWatermarkLo = some 0x28#8 ∧ offsetIn defaultOffsets .fifoHiWatermarkHi = some 0x2A#8 ∧
  offsetIn defaultOffsets .fifoLoWatermarkLo = some 0x2C#8 ∧ offsetIn defaultOffsets .fifoLoWatermarkHi = some 0x2E#8 ∧
  offsetIn defaultOffsets .fifoWritePointerLo = some 0x34#8 ∧ offsetIn defaultOffsets .fifoWritePointerHi = some 0x36#8 ∧
  offsetIn defaultOffsets .fifoBpLo = some 0x3C#8 ∧ offsetIn defaultOffsets .fifoBpHi = some 0x3E#8

/-- Writes of the distance and read-pointer registers (41_mmio_writes.md section 4, D9, D35): the same law, on `distance` and `read_pointer`
in both execution modes; `safe_read_pointer` and every other field stay. -/
def Obligations.DistanceAndReadPointerWritesReachTheStoredField : Prop :=
  ∀ (s : State) (v : U16), Running s → s.cfg.maskedWriteKeepsOld = true →
    exec (.wr16FifoRwDistanceLo v) s = .next { s with
      distance := s.distance.extractLsb' 16 16 ++ ((s.distance.extractLsb' 0 16 &&& 0x001F#16) ||| (v &&& 0xFFE0#16)) } ∧
    exec (.wr16FifoRwDistanceHi v) s = .next { s with
      distance := ((s.distance.extractLsb' 16 16 &&& ~~~s.cfg.hiMask) ||| (v &&& s.cfg.hiMask)) ++ s.distance.extractLsb' 0 16 } ∧
    exec (.wr16FifoReadPointerLo v) s = .next { s with
      readPointer := s.readPointer.extractLsb' 16 16 ++ ((s.readPointer.extractLsb' 0 16 &&& 0x001F#16) ||| (v &&& 0xFFE0#16)) } ∧
    exec (.wr16FifoReadPointerHi v) s = .next { s with
      readPointer := ((s.readPointer.extractLsb' 16 16 &&& ~~~s.cfg.hiMask) ||| (v &&& s.cfg.hiMask)) ++ s.readPointer.extractLsb' 0 16 }

/-- A half write under either setting of `MASKED_WRITE_KEEPS_OLD` (41_mmio_writes.md section 1, D35; log 18), bit by bit, for every split
field: a bit inside the mask is written, a bit outside is kept or cleared as the setting says, the other half and every other split
field stay. -/
def Obligations.HalfWritesUnderEitherMaskSetting : Prop :=
  ∀ (f : SplitField) (v : U16) (s : State), Running s →
    (∃ t, exec (writeInstr (loReg f) v) s = .next t ∧
      (∀ n, n < 16 → (splitValue f t.toDescriptor).getLsbD n =
        if (0xFFE0#16).getLsbD n then v.getLsbD n else s.cfg.maskedWriteKeepsOld && (splitValue f s.toDescriptor).getLsbD n) ∧
      (∀ n, 16 ≤ n → (splitValue f t.toDescriptor).getLsbD n = (splitValue f s.toDescriptor).getLsbD n) ∧
      (∀ g, g ≠ f → splitValue g t.toDescriptor = splitValue g s.toDescriptor) ∧ t.safeReadPointer = s.safeReadPointer) ∧
    (∃ t, exec (writeInstr (hiReg f) v) s = .next t ∧
      (∀ n, n < 16 → (splitValue f t.toDescriptor).getLsbD (n + 16) =
        if s.cfg.hiMask.getLsbD n then v.getLsbD n else s.cfg.maskedWriteKeepsOld && (splitValue f s.toDescriptor).getLsbD (n + 16)) ∧
      (∀ n, n < 16 → (splitValue f t.toDescriptor).getLsbD n = (splitValue f s.toDescriptor).getLsbD n) ∧
      (∀ g, g ≠ f → splitValue g t.toDescriptor = splitValue g s.toDescriptor) ∧ t.safeReadPointer = s.safeReadPointer)

/-- 41_mmio_writes.md R185. -/
def Obligations.TokenWriteStoresEveryBit : Prop :=
  (∀ (s : State) (v : U16), Running s → exec (.wr16Token v) s = .next { s with token := v }) ∧ offsetIn defaultOffsets .token = some 0x0E#8

/-- 41_mmio_writes.md R180, R186 to R189, and the ignored write of PERF_SELECT (R183): accepted, and nothing changes. After a reset and a
write of an edge of the bounding box the edge reads as after the reset. -/
def Obligations.RejectedWritesChangeNothing : Prop :=
  (∀ (s : State) (v : U16), Running s →
    exec (.wr16Status v) s = .next s ∧ exec (.wr16PerfSelect v) s = .next s ∧ exec (.wr16BboxLeft v) s = .next s ∧
    exec (.wr16BboxRight v) s = .next s ∧ exec (.wr16BboxTop v) s = .next s ∧ exec (.wr16BboxBottom v) s = .next s) ∧
  (∀ (s t u : State) (v : U16), exec .reset s = .next t →
    (exec (.wr16BboxLeft v) t = .next u → exec .rd16BboxLeft u = .next { u with readData := some 0x0000#16 }) ∧
    (exec (.wr16BboxRight v) t = .next u → exec .rd16BboxRight u = .next { u with readData := some 0x0280#16 }) ∧
    (exec (.wr16BboxTop v) t = .next u → exec .rd16BboxTop u = .next { u with readData := some 0x0000#16 }) ∧
    (exec (.wr16BboxBottom v) t = .next u → exec .rd16BboxBottom u = .next { u with readData := some 0x01E0#16 })) ∧
  offsetIn defaultOffsets .status = some 0x00#8 ∧ offsetIn defaultOffsets .perfSelect = some 0x06#8 ∧
  offsetIn defaultOffsets .bboxLeft = some 0x10#8 ∧ offsetIn defaultOffsets .bboxRight = some 0x12#8 ∧
  offsetIn defaultOffsets .bboxTop = some 0x14#8 ∧ offsetIn defaultOffsets .bboxBottom = some 0x16#8

/-- CLEAR and the metrics registers, the further pairs of `METRICS` included, take no write (41_mmio_writes.md sections 2 and 5, D4, D10). -/
def Obligations.ClearAndMetricsWritesChangeNothing : Prop :=
  ∀ (s : State) (v : U16), Running s →
    exec (.wr16Clear v) s = .next s ∧
    exec (.wr16Metric00 v) s = .next s ∧ exec (.wr16Metric01 v) s = .next s ∧ exec (.wr16Metric02 v) s = .next s ∧
    exec (.wr16Metric03 v) s = .next s ∧ exec (.wr16Metric04 v) s = .next s ∧ exec (.wr16Metric05 v) s = .next s ∧
    exec (.wr16Metric06 v) s = .next s ∧ exec (.wr16Metric07 v) s = .next s ∧ exec (.wr16Metric08 v) s = .next s ∧
    exec (.wr16Metric09 v) s = .next s ∧ exec (.wr16Metric10 v) s = .next s ∧ exec (.wr16Metric11 v) s = .next s ∧
    exec (.wr16Metric12 v) s = .next s ∧ exec (.wr16Metric13 v) s = .next s ∧ exec (.wr16Metric14 v) s = .next s ∧
    exec (.wr16Metric15 v) s = .next s ∧ exec (.wr16Metric16 v) s = .next s ∧
    execWr16FurtherMetric v s = .next s

/-- `WR16 CONTROL` with no falling edge of read-enable (41_mmio_writes.md section 2, D3, D20): one atomic step, the six flags and nothing
else. -/
def Obligations.ControlWriteCopiesTheSixFlags : Prop :=
  ∀ (s : State) (v : U16), Running s → (s.readEnabled = false ∨ v.getLsbD s.cfg.controlBits.readEnable.val = true) →
    exec (.wr16Control v) s = .next { s with
      readEnabled := v.getLsbD s.cfg.controlBits.readEnable.val
      breakpointEnabled := v.getLsbD s.cfg.controlBits.bpEnable.val
      hiWatermarkInterruptEnabled := v.getLsbD s.cfg.controlBits.hiInt.val
      loWatermarkInterruptEnabled := v.getLsbD s.cfg.controlBits.loInt.val
      linkEnabled := v.getLsbD s.cfg.controlBits.link.val
      breakpointInterruptEnabled := v.getLsbD s.cfg.controlBits.bpInt.val }

/-- `WR16 CONTROL` on a falling edge of read-enable (41_mmio_writes.md section 2, 43_consumer_port.md section 3, D20, D30): the five other
flags, then the flush with `read_enabled` still true, then `read_enabled` false. With nothing between the steps the state handed to the
consumer is the one with the five flags copied and `FlushGpu` emitted, and the consumer runs its port operations on it, as `exec` runs
them. -/
def Obligations.ControlFallingEdgeFlushesFirst : Prop :=
  ∀ (s : State) (v : U16), Running s → s.readEnabled = true → v.getLsbD s.cfg.controlBits.readEnable.val = false → NothingBetween s →
    ∃ before after : State,
      before = { s with
        breakpointEnabled := v.getLsbD s.cfg.controlBits.bpEnable.val
        hiWatermarkInterruptEnabled := v.getLsbD s.cfg.controlBits.hiInt.val
        loWatermarkInterruptEnabled := v.getLsbD s.cfg.controlBits.loInt.val
        linkEnabled := v.getLsbD s.cfg.controlBits.link.val
        breakpointInterruptEnabled := v.getLsbD s.cfg.controlBits.bpInt.val
        out := s.out ++ [.flushGpu] } ∧
      runInstrs (s.interleaved.flush.map consumerInstr) before = .next after ∧ after.readEnabled = true ∧
      exec (.wr16Control v) s = .next { after with readEnabled := false }

/-- What no register write does (41_mmio_writes.md section 7, D16): with no consumer-side operation inside it, a write changes no hit flag,
latch, queue or link state, and the only event it can emit is `FlushGpu`, from CONTROL. -/
def Obligations.NoRegisterWriteRunsTheEvaluator : Prop :=
  ∀ (r : Reg) (v : U16) (s t : State), exec (writeInstr r v) s = .next t → NothingInside s →
    SameHits s t ∧ SameMailbox s t ∧ SameLinkState s t ∧ SameSurroundings s t ∧ SameBox s t ∧ t.safeReadPointer = s.safeReadPointer ∧
    (t.out = s.out ∨ (r = .control ∧ s.readEnabled = true ∧ t.readEnabled = false ∧ t.out = s.out ++ [.flushGpu]))

/-- `WR32` and `RD32` (30_encoding.md sections 4 and 6): the two half writes compose to one masked 32-bit write, in either order, and touch
no other split field. The result of `RD32` is `{ hi, lo }` of what its two reads return: the field in single-thread mode, what the
mode-dependent registers show in dual-thread mode, and halves of two values where a write of the field falls between the reads (R178). -/
def Obligations.TwoHalfWritesComposeInEitherOrder : Prop :=
  (∀ (f : SplitField) (v : U32) (s : State), Running s → s.cfg.maskedWriteKeepsOld = true →
    ∃ t, runInstrs (wr32 f v) s = .next t ∧ runInstrs (wr32 f v).reverse s = .next t ∧
      splitValue f t.toDescriptor =
        (splitValue f s.toDescriptor &&& ~~~(s.cfg.hiMask ++ 0xFFE0#16 : U32)) ||| (v &&& (s.cfg.hiMask ++ 0xFFE0#16 : U32)) ∧
      (∀ g, g ≠ f → splitValue g t.toDescriptor = splitValue g s.toDescriptor) ∧ t.out = s.out) ∧
  (∀ (f : SplitField) (s : State), Running s →
    ((s.cfg.dualThread = false ∨ (f ≠ .fifoRwDistance ∧ f ≠ .fifoReadPointer)) → rd32Value f [] s = some (splitValue f s.toDescriptor)) ∧
    (s.cfg.dualThread = true → rd32Value .fifoReadPointer [] s = some s.safeReadPointer) ∧
    (s.cfg.dualThread = true → s.safeReadPointer.toNat ≤ s.writePointer.toNat →
      rd32Value .fifoRwDistance [] s = some (s.writePointer - s.safeReadPointer)) ∧
    (s.cfg.dualThread = true → s.writePointer.toNat < s.safeReadPointer.toNat →
      rd32Value .fifoRwDistance [] s = some ((s.endAddr - s.safeReadPointer) + (s.writePointer - s.base) + s.cfg.distWrapBias))) ∧
  (∀ (f : SplitField) (v : U32) (s t : State), Running s → s.cfg.dualThread = false → runInstrs (wr32 f v) s = .next t →
    rd32Value f (wr32 f v) s =
      some ((splitValue f t.toDescriptor).extractLsb' 16 16 ++ (splitValue f s.toDescriptor).extractLsb' 0 16 : U32))

/-- Fields with 32-byte aligned values keep them under every register write with no consumer-side operation inside it (41_mmio_writes.md
section 1, 00_scope.md R10), whichever way the masked write treats old bits. -/
def Obligations.RegisterWritesKeepFieldsAligned : Prop :=
  ∀ (r : Reg) (v : U16) (s t : State), exec (writeInstr r v) s = .next t → NothingInside s → Aligned32 s.toDescriptor → Aligned32 t.toDescriptor

/-! ## The producer -/

/-- 42_producer_burst.md R232: link mode off. Step 1, possibly the flush, `RunGpu`; `write_pointer` and the link state stay and no fatal
check is made, whatever the consumer side does; `distance` stays unless the consumer side changes it. In the flush the consumer runs its
port operations as `exec` runs them. -/
def Obligations.UnlinkedBurstMovesNothing : Prop :=
  ∀ (s : State) (size : U16), Running s → s.linkEnabled = false →
    ∃ r : State, exec (.burst size) s = .next { r with out := r.out ++ [.runGpu] } ∧
      r.writePointer = s.writePointer ∧ SameLinkState s r ∧ r.fault = none ∧ SameProgramming s r ∧ SameSurroundings s r ∧
      (NothingBetween s →
        r = evaluate .cpu s ∨
        runInstrs (s.interleaved.flush.map consumerInstr) { evaluate .cpu s with out := (evaluate .cpu s).out ++ [.flushGpu] } = .next r) ∧
      (NothingInside s → r.distance = s.distance ∧ { r with out := (evaluate .cpu s).out } = evaluate .cpu s)

/-- When an unlinked burst flushes (42_producer_burst.md section 2, D21, D22), for either value of the open parameter. -/
def Obligations.UnlinkedBurstFlushesOnlyAMatchingNonemptyQueue : Prop :=
  ∀ (s : State) (size : U16), Running s → s.linkEnabled = false → NothingInside s →
    ∃ t, exec (.burst size) s = .next t ∧
      t.out = (evaluate .cpu s).out ++
        (if s.cfg.flushOnUnlinkedBurst = true ∧ s.linkBase = s.base ∧ s.linkEnd = s.endAddr ∧ s.distance ≠ 0#32 then [.flushGpu] else []) ++
        [.runGpu]

/-- 42_producer_burst.md R234, R235: whatever the consumer side does between the steps and whatever step 7 finds, the write pointer advances,
wrapping only on equality with `end`, and the link state is published exactly when read-enable is set. -/
def Obligations.LinkedBurstAdvancesWrapsAndPublishes : Prop :=
  ∀ (s : State) (size : U16), Running s → s.linkEnabled = true →
    ∃ t, exec (.burst size) s = .next t ∧
      (s.writePointer + size.setWidth 32 = s.endAddr → t.writePointer = s.base) ∧
      (s.writePointer + size.setWidth 32 ≠ s.endAddr → t.writePointer = s.writePointer + size.setWidth 32) ∧
      (s.readEnabled = true → t.linkBase = s.base ∧ t.linkEnd = s.endAddr ∧ t.linkWritePointer = t.writePointer) ∧
      (s.readEnabled = false → SameLinkState s t)

/-- 42_producer_burst.md R237 to R240: the whole of a linked burst with nothing between its steps. `distance` is raised without a bound, then
`RunGpu`, then the two checks, the occupancy first, on the state as it stands; nothing is rolled back. -/
def Obligations.LinkedBurstAddsThenChecks : Prop :=
  ∀ (s : State) (size : U16), Running s → s.linkEnabled = true → NothingBetween s →
    ∀ e : State, e = evaluate .cpu s →
    ∀ (wp d lb le lw : U32), wp = (if s.writePointer + size.setWidth 32 = s.endAddr then s.base else s.writePointer + size.setWidth 32) →
      d = s.distance + size.setWidth 32 →
      lb = (if s.readEnabled then s.base else s.linkBase) → le = (if s.readEnabled then s.endAddr else s.linkEnd) →
      lw = (if s.readEnabled then wp else s.linkWritePointer) →
      ∀ r : State, r = { e with
        writePointer := wp, distance := d, linkBase := lb, linkEnd := le, linkWritePointer := lw
        out := e.out ++ (if s.hiWatermark.toNat ≤ s.distance.toNat then [.excCheck] else []) ++ [.runGpu] } →
      ((s.endAddr - s.base).toNat < d.toNat →
        exec (.burst size) s = .next { r with fault := some .overflow, out := r.out ++ [.fatal .overflow r.toDescriptor] }) ∧
      (d.toNat ≤ (s.endAddr - s.base).toNat → (lw ≠ wp ∨ lb ≠ s.base ∨ le ≠ s.endAddr) →
        exec (.burst size) s = .next { r with fault := some .linkDesync, out := r.out ++ [.fatal .linkDesync r.toDescriptor] }) ∧
      (d.toNat ≤ (s.endAddr - s.base).toNat → lw = wp → lb = s.base → le = s.endAddr → exec (.burst size) s = .next r)

/-- 42_producer_burst.md R231: step 1 runs in both link modes, on the state before this burst adds anything; the hit flags after the burst are
the comparators of that state, and the line is applied at once unless a change is in flight. -/
def Obligations.BurstEvaluatesBeforeItAdds : Prop :=
  ∀ (s : State) (size : U16), Running s → NothingInside s →
    ∀ bp hi lo cond : Bool, bp = (s.breakpointEnabled && decide (s.readPointer = s.breakpoint)) → hi = decide (s.hiWatermark < s.distance) →
      lo = decide (s.distance < s.loWatermark) →
      cond = (((bp && s.breakpointInterruptEnabled) || (hi && s.hiWatermarkInterruptEnabled) || (lo && s.loWatermarkInterruptEnabled)) &&
        s.readEnabled) →
      ∃ t, exec (.burst size) s = .next t ∧ t.breakpointHit = bp ∧ t.hiWatermarkHit = hi ∧ t.loWatermarkHit = lo ∧
        t.interruptAsserted = (if s.interruptChangePending then s.interruptAsserted else cond) ∧
        t.interruptChangePending = s.interruptChangePending ∧ t.eventQueue = s.eventQueue ∧
        ∃ rest, t.out = s.out ++ (if cond ≠ s.interruptAsserted ∧ s.interruptChangePending = false
          then [.setInterrupt s.cfg.irqCause cond, .excCheck, .runGpu] else []) ++ rest ∧ lastLevel rest = none

/-- The frame of a burst whatever the consumer side does inside it (10_state.md section 6): the programming, the configuration and the
surroundings stay. -/
def Obligations.BurstKeepsTheProgramming : Prop :=
  ∀ (s t : State) (size : U16), exec (.burst size) s = .next t → SameProgramming s t ∧ SameSurroundings s t

/-- Link mode without read-enable (70_reset_and_hazards.md section 3): fatal unless the stale link state equals the queue's fields after the
advance, whatever the consumer side does inside the burst. -/
def Obligations.LinkedBurstWithoutReadEnableIsFatalUnlessLinked : Prop :=
  ∀ (s : State) (size : U16), Running s → s.linkEnabled = true → s.readEnabled = false →
    ∃ t, exec (.burst size) s = .next t ∧
      (t.fault = none → s.linkBase = s.base ∧ s.linkEnd = s.endAddr ∧
        s.linkWritePointer = wrapPointer s.base s.endAddr (s.writePointer + size.setWidth 32))

/-- The burst right after reset with link mode and read-enable on (70_reset_and_hazards.md section 2): `Overflow` at once. It rests on
`base = end = 0` after reset, which the spec decides (D14; log 8) and the source does not say. -/
def Obligations.LinkedBurstOnAnUnprogrammedQueueOverflows : Prop :=
  ∀ (c : Config) (size : U16), size ≠ 0#16 →
    ∃ t, exec (.burst size) { State.resetOf c with linkEnabled := true, readEnabled := true } = .next t ∧ t.fault = some .overflow ∧
      t.distance = size.setWidth 32 ∧ t.writePointer = size.setWidth 32

/-- The source's burst property as the spec restates it (42_producer_burst.md section 4, C3): after `n` bursts of one size with no drain, in
link mode with read-enable, from an empty queue that meets the range and alignment duties, `distance` is `n * size` as long as that fits
the capacity, the write pointer is where the ring puts it and inside `[base, end)`; the burst that does not fit (its sum
still below 2^32, R237) stores the excess and is fatal. -/
def Obligations.BurstsFillTheRingExactlyToCapacity : Prop :=
  ∀ (n : Nat) (size : U16) (s : State), Running s → s.linkEnabled = true → s.readEnabled = true → NothingBetween s → s.distance = 0#32 →
    QueueOk s.toDescriptor → BurstAligned size.toNat s.toDescriptor → n * size.toNat ≤ capacity s.toDescriptor →
    ∃ t, runInstrs (List.replicate n (.burst size)) s = .next t ∧ t.fault = none ∧
      t.distance.toNat = min (n * size.toNat) (capacity s.toDescriptor) ∧ QueueOk t.toDescriptor ∧
      t.writePointer.toNat = s.base.toNat + (s.writePointer.toNat - s.base.toNat + n * size.toNat) % capacity s.toDescriptor ∧
      (capacity s.toDescriptor < (n + 1) * size.toNat → (n + 1) * size.toNat < 2 ^ 32 →
        ∃ u, exec (.burst size) t = .next u ∧ u.fault = some .overflow ∧ u.distance.toNat = (n + 1) * size.toNat)

/-- A burst's add and a consumer's subtraction both take effect in either order (20_memory.md section 4), shown by the subtraction just before
and just after step 5 of a burst in dual-thread mode. -/
def Obligations.AddAndSubtractBothTakeEffect : Prop :=
  ∀ (s : State) (size : U16) (n : U32), Running s → s.linkEnabled = true → s.cfg.dualThread = true →
    ∃ t u, exec (.burst size) { s with interleaved := { Interleaving.none with after4 := [.distSub n] } } = .next t ∧
      exec (.burst size) { s with interleaved := { Interleaving.none with after5 := [.distSub n] } } = .next u ∧
      t.distance = s.distance + size.setWidth 32 - n ∧ u.distance = s.distance + size.setWidth 32 - n

/-! ## The evaluator and the interrupt line -/

/-- 44_interrupt_evaluator.md R266, R267, R268: at every evaluation, from either call site. -/
def Obligations.EvaluationRewritesTheHitFlags : Prop :=
  (∀ (side : Side) (s : State),
    (evaluate side s).breakpointHit = (s.breakpointEnabled && decide (s.readPointer = s.breakpoint)) ∧
    (evaluate side s).hiWatermarkHit = decide (s.hiWatermark < s.distance) ∧
    (evaluate side s).loWatermarkHit = decide (s.distance < s.loWatermark)) ∧
  (∀ s : State, Running s → exec .evalGpu s = .next (evaluate .gpu s))

/-- 44_interrupt_evaluator.md R269, R270: the composite condition, and the three ways `EVAL_GPU` ends. -/
def Obligations.EvalGpuDefersOrApplies : Prop :=
  ∀ s : State, Running s → ∀ bp hi lo cond : Bool, ∀ r : State,
    bp = (s.breakpointEnabled && decide (s.readPointer = s.breakpoint)) → hi = decide (s.hiWatermark < s.distance) →
    lo = decide (s.distance < s.loWatermark) →
    cond = (((bp && s.breakpointInterruptEnabled) || (hi && s.hiWatermarkInterruptEnabled) || (lo && s.loWatermarkInterruptEnabled)) &&
      s.readEnabled) →
    r = { s with breakpointHit := bp, hiWatermarkHit := hi, loWatermarkHit := lo } →
    ((cond = s.interruptAsserted ∨ s.interruptChangePending = true) → exec .evalGpu s = .next r ∧ evaluate .cpu s = r) ∧
    (cond ≠ s.interruptAsserted → s.interruptChangePending = false → s.cfg.dualThread = true →
      exec .evalGpu s = .next { r with
        interruptChangePending := true, eventQueue := s.eventQueue ++ [cond], out := s.out ++ [.schedule cond] }) ∧
    (cond ≠ s.interruptAsserted → s.interruptChangePending = false → s.cfg.dualThread = false →
      exec .evalGpu s = .next { r with
        interruptAsserted := cond, out := s.out ++ [.setInterrupt s.cfg.irqCause cond, .excCheck, .runGpu] }) ∧
    (cond ≠ s.interruptAsserted → s.interruptChangePending = false →
      evaluate .cpu s = { r with
        interruptAsserted := cond, out := s.out ++ [.setInterrupt s.cfg.irqCause cond, .excCheck, .runGpu] })

/-- 44_interrupt_evaluator.md R272: the entry and the return of the line. -/
def Obligations.ApplyingATransitionSetsTheLatchAndTellsTheSink : Prop :=
  ∀ (level : Bool) (s : State),
    applyTransition level s = { s with
      interruptAsserted := level, interruptChangePending := false
      out := s.out ++ [.setInterrupt s.cfg.irqCause level, .excCheck, .runGpu] }

/-- While a change is in flight neither side changes the line (44_interrupt_evaluator.md section 4): an evaluation rewrites the hit flags and
nothing else. -/
def Obligations.PendingChangeBlocksBothSides : Prop :=
  ∀ (side : Side) (s : State), s.interruptChangePending = true →
    evaluate side s = { s with
      breakpointHit := (s.breakpointEnabled && decide (s.readPointer = s.breakpoint))
      hiWatermarkHit := decide (s.hiWatermark < s.distance)
      loWatermarkHit := decide (s.distance < s.loWatermark) }

/-- Evaluating twice with no change between makes one transition (44_interrupt_evaluator.md section 4): the second evaluation, from either
side, changes nothing. -/
def Obligations.SecondEvaluationChangesNothing : Prop :=
  (∀ (side side' : Side) (s : State), evaluate side' (evaluate side s) = evaluate side s) ∧
  (∀ s t : State, exec .evalGpu s = .next t → exec .evalGpu t = .next t)

/-- The breakpoint interrupt in single-thread mode with the watermark interrupts disabled and nothing in flight (44_interrupt_evaluator.md
section 3): asserted after an evaluation iff the four conditions hold. -/
def Obligations.BreakpointInterruptAssertsIff : Prop :=
  ∀ s : State, Running s → s.cfg.dualThread = false → s.interruptChangePending = false → s.hiWatermarkInterruptEnabled = false →
    s.loWatermarkInterruptEnabled = false →
    ∃ t, exec .evalGpu s = .next t ∧
      (t.interruptAsserted = true ↔
        s.breakpointEnabled = true ∧ s.breakpointInterruptEnabled = true ∧ s.readPointer = s.breakpoint ∧ s.readEnabled = true)

/-- The breakpoint state machine with states clear and hit (44_interrupt_evaluator.md section 2, D33): an evaluation moves on the named edges
only. -/
def Obligations.BreakpointFlagMovesOnItsEdges : Prop :=
  ∀ (side : Side) (s : State),
    (bpRise s.toDescriptor = true → s.breakpointHit = false ∧ (evaluate side s).breakpointHit = true) ∧
    (bpFall s.toDescriptor = true → s.breakpointHit = true ∧ (evaluate side s).breakpointHit = false) ∧
    (bpRise s.toDescriptor = false → bpFall s.toDescriptor = false → (evaluate side s).breakpointHit = s.breakpointHit)

/-- What the evaluator and the STATUS read do not look at (44_interrupt_evaluator.md section 5, 40_mmio_reads.md section 4): the safe read
pointer, the link state, the bounding box and the token. STATUS does not look at the execution mode either; the evaluator does. -/
def Obligations.EvaluatorAndStatusIgnoreTheSafePointer : Prop :=
  ∀ (side : Side) (s : State) (p a b w : U32) (l r t u k : U16) (mode : Bool),
    evaluate side { s with safeReadPointer := p, linkBase := a, linkEnd := b, linkWritePointer := w, bboxLeft := l, bboxRight := r, bboxTop := t, bboxBottom := u, token := k } =
      { evaluate side s with safeReadPointer := p, linkBase := a, linkEnd := b, linkWritePointer := w, bboxLeft := l, bboxRight := r, bboxTop := t, bboxBottom := u, token := k } ∧
    ∀ v v' : State, exec .rd16Status s = .next v →
      exec .rd16Status { s with safeReadPointer := p, linkBase := a, linkEnd := b, linkWritePointer := w, bboxLeft := l, bboxRight := r, bboxTop := t, bboxBottom := u, token := k, cfg := { s.cfg with dualThread := mode } } = .next v' →
      v.readData = v'.readData

/-- `DELIVER` (44_interrupt_evaluator.md section 4, D34): the head of the queue is applied, the evaluator is not run; with an empty queue
there is no step (log 13). -/
def Obligations.DeliverAppliesTheHeadOrIsStuck : Prop :=
  ∀ s : State, Running s →
    (∀ level rest, s.eventQueue = level :: rest →
      exec .deliver s = .next { s with
        eventQueue := rest, interruptAsserted := level, interruptChangePending := false
        out := s.out ++ [.setInterrupt s.cfg.irqCause level, .excCheck, .runGpu] }) ∧
    (s.eventQueue = [] → exec .deliver s = .fault .nothingToDeliver)

/-- The line and the sink agree (60_exceptions.md section 2, 44_interrupt_evaluator.md section 4): every operation but `RESET` and
`SNAPSHOT_RESTORE` only adds events, and the line afterwards is the last level the sink was told, or what it was. -/
def Obligations.LineFollowsTheSink : Prop :=
  ∀ (i : Instr) (s t : State), exec i s = .next t → i ≠ .reset → (∀ snap, i ≠ .snapshotRestore snap) →
    ∃ new, t.out = s.out ++ new ∧ t.interruptAsserted = (lastLevel new).getD s.interruptAsserted

/-! ## The consumer port and the agents -/

/-- The consumer port (43_consumer_port.md sections 1 and 3, D23, D30): each operation writes its field, unmasked and unchecked, and nothing
else; a subtraction below zero wraps (log 9). Inside another operation each of the five does what it does alone, one after another. -/
def Obligations.ConsumerPortWritesItsFields : Prop :=
  ∀ s : State, Running s →
    (∀ v, exec (.consRpSet v) s = .next { s with readPointer := v }) ∧
    (∀ n, exec (.consDistSub n) s = .next { s with distance := s.distance - n }) ∧
    (∀ v, exec (.consSafePublish v) s = .next { s with safeReadPointer := v }) ∧
    (∀ l r t b, exec (.consBboxSet l r t b) s = .next { s with bboxLeft := l, bboxRight := r, bboxTop := t, bboxBottom := b }) ∧
    (∀ v, exec (.consRpSet v) s = .next (consumerStep (.rpSet v) s)) ∧ (∀ n, exec (.consDistSub n) s = .next (consumerStep (.distSub n) s)) ∧
    (∀ v, exec (.consSafePublish v) s = .next (consumerStep (.safePublish v) s)) ∧
    (∀ l r t b, exec (.consBboxSet l r t b) s = .next (consumerStep (.bboxSet l r t b) s)) ∧
    exec .evalGpu s = .next (consumerStep .evalGpu s) ∧
    (∀ ops, runInstrs (ops.map consumerInstr) s = .next (runConsumer ops s)) ∧
    (∀ ops, s.cfg.dualThread = true → runInstrs (ops.map consumerInstr) s = .next (between ops s)) ∧
    runInstrs (s.interleaved.flush.map consumerInstr) { s with out := s.out ++ [.flushGpu] } = .next (callFlush s)

/-- 10_state.md R50, column by column, for operations with no operation of another agent inside them. -/
def Obligations.AgentsWriteOnlyTheirFields : Prop :=
  ∀ (i : Instr) (s t : State), exec i s = .next t → NothingInside s →
    (∀ r v, i = writeInstr r v →
      t.safeReadPointer = s.safeReadPointer ∧ SameHits s t ∧ SameBox s t ∧ SameMailbox s t ∧ SameLinkState s t ∧ t.fault = s.fault) ∧
    (∀ r, i = readInstr r → SameTracker s t) ∧
    (∀ size, i = .burst size →
      SameProgramming s t ∧ t.readPointer = s.readPointer ∧ t.safeReadPointer = s.safeReadPointer ∧ SameBox s t ∧
      t.eventQueue = s.eventQueue ∧ (s.linkEnabled = false → t.writePointer = s.writePointer ∧ t.distance = s.distance)) ∧
    (i = .deliver →
      t.toDescriptor = s.toDescriptor ∧ SameBox s t ∧ t.token = s.token ∧ SameLinkState s t ∧ t.fault = s.fault ∧
      t.interruptChangePending = false ∧ ∃ level, s.eventQueue = level :: t.eventQueue) ∧
    (i.agent = .consumer →
      SameProgramming s t ∧ t.writePointer = s.writePointer ∧ SameLinkState s t ∧ t.fault = s.fault ∧
      (s.cfg.dualThread = true → t.interruptAsserted = s.interruptAsserted) ∧
      (s.cfg.dualThread = false → (s.interruptChangePending = false → t.interruptChangePending = false) ∧ t.eventQueue = s.eventQueue)) ∧
    (∀ snap, i = .snapshotRestore snap → SameLinkState s t ∧ t.fault = s.fault)

/-- The safe read pointer changes only when the consumer publishes (10_state.md section 1), or by a restore or a reset: no other operation
changes it, whatever other consumer-side operations fall inside. -/
def Obligations.OnlyPublishingMovesTheSafePointer : Prop :=
  ∀ (i : Instr) (s t : State), exec i s = .next t → (∀ v, ConsumerOp.safePublish v ∉ s.interleaved.ops) → (∀ v, i ≠ .consSafePublish v) →
    (∀ snap, i ≠ .snapshotRestore snap) → i ≠ .reset → t.safeReadPointer = s.safeReadPointer

/-! ## Snapshots -/

/-- 45_snapshot.md R287: the pair of the twenty-five values and the queue; nothing written, nothing emitted; the example after reset. -/
def Obligations.SnapshotSaveYieldsCoreAndQueue : Prop :=
  (∀ s : State, Running s →
    exec .snapshotSave s = .next { s with saved := some { core := s.toSavedCore, queue := s.eventQueue } }) ∧
  (∀ s t u : State, exec .reset s = .next t → exec .snapshotSave t = .next u →
    u.saved = some
      { core :=
          { base := 0, endAddr := 0, writePointer := 0, readPointer := 0, safeReadPointer := 0, distance := 0, hiWatermark := 0,
            loWatermark := 0, breakpoint := 0, linkEnabled := false, readEnabled := false, breakpointEnabled := false,
            breakpointInterruptEnabled := false, breakpointHit := false, hiWatermarkInterruptEnabled := false,
            loWatermarkInterruptEnabled := false, hiWatermarkHit := false, loWatermarkHit := false, bboxLeft := 0, bboxRight := 640,
            bboxTop := 0, bboxBottom := 480, token := 0, interruptAsserted := false, interruptChangePending := false }
        queue := [] })

/-- `SNAPSHOT_RESTORE` (45_snapshot.md section 2, D24): the saved values and the queue are installed unmasked, nothing is emitted or
evaluated, the link state and the fault stay. -/
def Obligations.SnapshotRestoreInstallsCoreAndQueue : Prop :=
  ∀ (s : State) (snap : Snapshot), Running s →
    ∃ t, exec (.snapshotRestore snap) s = .next t ∧ t.toSavedCore = snap.core ∧ t.eventQueue = snap.queue ∧ SameLinkState s t ∧
      t.fault = none ∧ SameSurroundings s t ∧ t.out = s.out

/-- The round trip (45_snapshot.md section 2): saving in `x` and restoring in a state with the same link state, fault and configuration gives
`x` back, and the same STATUS. -/
def Obligations.SnapshotRoundTripReproducesTheState : Prop :=
  ∀ x y : State, Running x → Running y → SameLinkState x y → x.cfg = y.cfg → x.consAtBreakpoint = y.consAtBreakpoint →
    ∃ x' snap y', exec .snapshotSave x = .next x' ∧ x'.saved = some snap ∧ exec (.snapshotRestore snap) y = .next y' ∧ SameTracker x y' ∧
      ∃ u v, exec .rd16Status x = .next u ∧ exec .rd16Status y' = .next v ∧ u.readData = v.readData

/-! ## Faults -/

/-- The halted state (60_exceptions.md section 1, D25): every operation but `RESET` is refused, the accesses that have
no row of the table included. -/
def Obligations.HaltedTrackerRefusesAllButReset : Prop :=
  ∀ (s : State) (reason : FatalReason), s.fault = some reason →
    (∀ i : Instr, i ≠ .reset → exec i s = .refused (.halted reason)) ∧
    (∀ k, execRd16FurtherMetric k s = .refused (.halted reason)) ∧ (∀ v, execWr16FurtherMetric v s = .refused (.halted reason)) ∧
    (∀ off, execRd16Unmapped off s = .refused (.halted reason)) ∧ (∀ off v, execWr16Unmapped off v s = .refused (.halted reason))

/-- Only a burst raises a fatal condition, and only `RESET` clears one: of a state with one recorded, `RESET` alone answers a next state
(60_exceptions.md section 1, D25). -/
def Obligations.OnlyABurstRaisesAFault : Prop :=
  ∀ (i : Instr) (s t : State) (reason : FatalReason), exec i s = .next t →
    (t.fault = some reason → s.fault = none ∧ ∃ size, i = .burst size) ∧ (s.fault = some reason → i = .reset ∧ t.fault = none)

/-! ## Invariants of every step -/

/-- The configuration is fixed (00_scope.md section 5, 70_reset_and_hazards.md section 1): no step changes it. The spec says that it does not
change until the next `RESET`; that `RESET` keeps it too is the model's choice (log 3). -/
def Obligations.EveryStepKeepsTheConfiguration : Prop :=
  ∀ s t : State, step s = .next t → t.cfg = s.cfg

/-- The mailbox invariant (44_interrupt_evaluator.md section 4) is kept by every step from every state that has it, when the snapshots to be
restored were taken from states that had it. -/
def Obligations.EveryStepKeepsTheMailbox : Prop :=
  ∀ s t : State, step s = .next t → Mailbox s → IssuedAgree s → Mailbox t ∧ IssuedAgree t

/-- The mailbox invariant holds after reset under every configuration (44_interrupt_evaluator.md section 4). -/
def Obligations.ResetHasTheMailbox : Prop :=
  ∀ c : Config, Mailbox (State.resetOf c) ∧ IssuedAgree (State.resetOf c)

/-! ## Encoding and step -/

/-- Decode and encode agree for every operation whose register is mapped, under every well-formed configuration (30_encoding.md sections 1
to 5, D1, D26). -/
def Obligations.DecodeInvertsEncode : Prop :=
  ∀ (c : Config) (i : Instr), c.wellFormed = true → i.wellFormed c = true →
    decode c (encode c i).1 (encode c i).2 = .ok (.instr i)

/-- Every accepted word has one meaning: encoding what a word spells gives the word and its operands back (30_encoding.md section 5, D26). -/
def Obligations.EncodeInvertsDecode : Prop :=
  ∀ (c : Config) (w : U32) (beside : Beside) (op : Operation), c.wellFormed = true → decode c w beside = .ok op →
    encodeOperation c op = (w, beside)

/-- Which words are rejected, and no others (30_encoding.md section 5, D11, D26): the irregular ones, and those whose operands beside the
word are not of the shape it takes (the model's name for that, log 11), at every value of the operands. -/
def Obligations.DecoderRejectsExactlyTheIrregularWords : Prop :=
  ∀ (c : Config) (w : U32) (beside : Beside) (kind sel off data : Nat), kind = w.toNat / 2 ^ 28 → sel = w.toNat / 2 ^ 24 % 16 →
    off = w.toNat / 2 ^ 16 % 256 → data = w.toNat % 2 ^ 16 →
    ∀ fits : Prop, (fits ↔
      if kind = 2 ∧ (sel = 3 ∨ sel = 4 ∨ sel = 5) then ∃ v, beside = .number v
      else if kind = 2 ∧ sel = 6 then ∃ l r t b, beside = .box l r t b
      else if kind = 2 ∧ sel = 8 then ∃ snap, beside = .snapshot snap
      else beside = .none) →
    ((∃ e, decode c w beside = .error e) ↔
      kind > 2 ∨ (kind = 2 ∧ (off ≠ 0 ∨ sel > 9 ∨ (sel ≠ 0 ∧ data ≠ 0))) ∨
      (kind < 2 ∧ (sel ≠ 0 ∨ off % 2 = 1 ∨ (kind = 0 ∧ data ≠ 0))) ∨ ¬fits)

/-- Words written out from 30_encoding.md R91, R93 and the default map decode to what they stand for. -/
def Obligations.SampleWordsDecode : Prop :=
  decodeTableWord 32 0x00000000 = some .rd16Status ∧ decodeTableWord 32 0x10201000 = some (.wr16FifoBaseLo 0x1000#16) ∧
  decodeTableWord 32 0x103E8001 = some (.wr16FifoBpHi 0x8001#16) ∧ decodeTableWord 32 0x00640000 = some .rd16Metric16 ∧
  decodeTableWord 32 0x20000020 = some (.burst 32#16) ∧ decodeTableWord 32 0x22000000 = some .deliver ∧
  decodeTableWord 32 0x24000000 = some (.consDistSub 0#32) ∧ decodeTableWord 32 0x29000000 = some .reset ∧
  decodeTableWord 32 0x2A000000 = none ∧ decodeTableWord 32 0x30000000 = none ∧ decodeTableWord 32 0x00000001 = none ∧
  decodeTableWord 32 0x01000000 = none ∧ decodeTableWord 32 0x00210000 = none

/-- A step performs the operation issued first, with its inputs (10_state.md section 5, D27; log 1): when its word decodes to an instruction,
step is that instruction's meaning on the state that has taken it; when none is issued nothing happens. -/
def Obligations.StepRunsTheDecodedOperation : Prop :=
  (∀ (s : State) (op : Issued) (rest : List Issued) (i : Instr), s.issued = op :: rest → decode s.cfg op.word op.beside = .ok (.instr i) →
    step s = exec i { s with consAtBreakpoint := op.consAtBreakpoint, interleaved := op.interleaved, issued := rest }) ∧
  (∀ (s : State) (op : Issued) (rest : List Issued) (e : DecodeError), s.issued = op :: rest → decode s.cfg op.word op.beside = .error e →
    step s = .refused (.undecodable e)) ∧
  (∀ s : State, s.issued = [] → step s = .next s)

/-- Accesses to even offsets that no row of the table has (40_mmio_reads.md sections 5 and 6, 41_mmio_writes.md sections 5 and 6, D10, D11;
log 6, log 10, log 15): a read of a further register of the metrics block returns its constant, a read of an offset that nothing is
mapped at returns a free value, and the writes are ignored. -/
def Obligations.UnmappedAccessesAreAbsorbed : Prop :=
  ∀ (s : State) (op : Issued) (rest : List Issued) (off : U8) (v : U16), Running s → s.issued = op :: rest → op.beside = .none →
    off.getLsbD 0 = false → regAt s.cfg.offsets off = none →
    ∀ r : State, r = { s with consAtBreakpoint := op.consAtBreakpoint, interleaved := op.interleaved, issued := rest } →
      (metricAt s.cfg.moreMetrics off = none → op.word = (0x00#8 ++ off ++ 0x0000#16 : U32) →
        step s = .next { r with readData := some (Config.draw16 s.draws), draws := s.draws + 1 }) ∧
      (∀ k, metricAt s.cfg.moreMetrics off = some k → op.word = (0x00#8 ++ off ++ 0x0000#16 : U32) →
        step s = .next { r with readData := some k }) ∧
      (op.word = (0x10#8 ++ off ++ v : U32) → step s = .next r)
end

