-- ==== Sys2Proof/Laws/State.lean ====
section
/-! SUPPORT. State.lean: one lemma for each field and each named update of State, so that no later proof unfolds a record update. A field of
the descriptor or of the saved core that an update does not reach is covered by the lemma about `toDescriptor` or `toSavedCore`. -/

namespace Sys2Proof.Machine

/-! ### `emit` -/

@[simp] theorem emit_toSavedCore (e : List Event) (s : State) : (emit e s).toSavedCore = s.toSavedCore := rfl
@[simp] theorem emit_eventQueue (e : List Event) (s : State) : (emit e s).eventQueue = s.eventQueue := rfl
@[simp] theorem emit_linkBase (e : List Event) (s : State) : (emit e s).linkBase = s.linkBase := rfl
@[simp] theorem emit_linkEnd (e : List Event) (s : State) : (emit e s).linkEnd = s.linkEnd := rfl
@[simp] theorem emit_linkWritePointer (e : List Event) (s : State) : (emit e s).linkWritePointer = s.linkWritePointer := rfl
@[simp] theorem emit_fault (e : List Event) (s : State) : (emit e s).fault = s.fault := rfl
@[simp] theorem emit_cfg (e : List Event) (s : State) : (emit e s).cfg = s.cfg := rfl
@[simp] theorem emit_out (e : List Event) (s : State) : (emit e s).out = s.out ++ e := rfl
@[simp] theorem emit_readData (e : List Event) (s : State) : (emit e s).readData = s.readData := rfl
@[simp] theorem emit_saved (e : List Event) (s : State) : (emit e s).saved = s.saved := rfl
@[simp] theorem emit_draws (e : List Event) (s : State) : (emit e s).draws = s.draws := rfl
@[simp] theorem emit_consAtBreakpoint (e : List Event) (s : State) : (emit e s).consAtBreakpoint = s.consAtBreakpoint := rfl
@[simp] theorem emit_interleaved (e : List Event) (s : State) : (emit e s).interleaved = s.interleaved := rfl
@[simp] theorem emit_issued (e : List Event) (s : State) : (emit e s).issued = s.issued := rfl

/-! ### `applyTransition` -/

@[simp] theorem applyTransition_toDescriptor (l : Bool) (s : State) : (applyTransition l s).toDescriptor = s.toDescriptor := rfl
@[simp] theorem applyTransition_bboxLeft (l : Bool) (s : State) : (applyTransition l s).bboxLeft = s.bboxLeft := rfl
@[simp] theorem applyTransition_bboxRight (l : Bool) (s : State) : (applyTransition l s).bboxRight = s.bboxRight := rfl
@[simp] theorem applyTransition_bboxTop (l : Bool) (s : State) : (applyTransition l s).bboxTop = s.bboxTop := rfl
@[simp] theorem applyTransition_bboxBottom (l : Bool) (s : State) : (applyTransition l s).bboxBottom = s.bboxBottom := rfl
@[simp] theorem applyTransition_token (l : Bool) (s : State) : (applyTransition l s).token = s.token := rfl
@[simp] theorem applyTransition_interruptAsserted (l : Bool) (s : State) : (applyTransition l s).interruptAsserted = l := rfl
@[simp] theorem applyTransition_interruptChangePending (l : Bool) (s : State) : (applyTransition l s).interruptChangePending = false := rfl
@[simp] theorem applyTransition_eventQueue (l : Bool) (s : State) : (applyTransition l s).eventQueue = s.eventQueue := rfl
@[simp] theorem applyTransition_linkBase (l : Bool) (s : State) : (applyTransition l s).linkBase = s.linkBase := rfl
@[simp] theorem applyTransition_linkEnd (l : Bool) (s : State) : (applyTransition l s).linkEnd = s.linkEnd := rfl
@[simp] theorem applyTransition_linkWritePointer (l : Bool) (s : State) : (applyTransition l s).linkWritePointer = s.linkWritePointer := rfl
@[simp] theorem applyTransition_fault (l : Bool) (s : State) : (applyTransition l s).fault = s.fault := rfl
@[simp] theorem applyTransition_cfg (l : Bool) (s : State) : (applyTransition l s).cfg = s.cfg := rfl
@[simp] theorem applyTransition_out (l : Bool) (s : State) : (applyTransition l s).out = s.out ++ [.setInterrupt s.cfg.irqCause l, .excCheck, .runGpu] := rfl
@[simp] theorem applyTransition_readData (l : Bool) (s : State) : (applyTransition l s).readData = s.readData := rfl
@[simp] theorem applyTransition_saved (l : Bool) (s : State) : (applyTransition l s).saved = s.saved := rfl
@[simp] theorem applyTransition_draws (l : Bool) (s : State) : (applyTransition l s).draws = s.draws := rfl
@[simp] theorem applyTransition_consAtBreakpoint (l : Bool) (s : State) : (applyTransition l s).consAtBreakpoint = s.consAtBreakpoint := rfl
@[simp] theorem applyTransition_interleaved (l : Bool) (s : State) : (applyTransition l s).interleaved = s.interleaved := rfl
@[simp] theorem applyTransition_issued (l : Bool) (s : State) : (applyTransition l s).issued = s.issued := rfl

/-! ### `scheduleTransition` -/

@[simp] theorem scheduleTransition_toDescriptor (l : Bool) (s : State) : (scheduleTransition l s).toDescriptor = s.toDescriptor := rfl
@[simp] theorem scheduleTransition_bboxLeft (l : Bool) (s : State) : (scheduleTransition l s).bboxLeft = s.bboxLeft := rfl
@[simp] theorem scheduleTransition_bboxRight (l : Bool) (s : State) : (scheduleTransition l s).bboxRight = s.bboxRight := rfl
@[simp] theorem scheduleTransition_bboxTop (l : Bool) (s : State) : (scheduleTransition l s).bboxTop = s.bboxTop := rfl
@[simp] theorem scheduleTransition_bboxBottom (l : Bool) (s : State) : (scheduleTransition l s).bboxBottom = s.bboxBottom := rfl
@[simp] theorem scheduleTransition_token (l : Bool) (s : State) : (scheduleTransition l s).token = s.token := rfl
@[simp] theorem scheduleTransition_interruptAsserted (l : Bool) (s : State) : (scheduleTransition l s).interruptAsserted = s.interruptAsserted := rfl
@[simp] theorem scheduleTransition_interruptChangePending (l : Bool) (s : State) : (scheduleTransition l s).interruptChangePending = true := rfl
@[simp] theorem scheduleTransition_eventQueue (l : Bool) (s : State) : (scheduleTransition l s).eventQueue = s.eventQueue ++ [l] := rfl
@[simp] theorem scheduleTransition_linkBase (l : Bool) (s : State) : (scheduleTransition l s).linkBase = s.linkBase := rfl
@[simp] theorem scheduleTransition_linkEnd (l : Bool) (s : State) : (scheduleTransition l s).linkEnd = s.linkEnd := rfl
@[simp] theorem scheduleTransition_linkWritePointer (l : Bool) (s : State) : (scheduleTransition l s).linkWritePointer = s.linkWritePointer := rfl
@[simp] theorem scheduleTransition_fault (l : Bool) (s : State) : (scheduleTransition l s).fault = s.fault := rfl
@[simp] theorem scheduleTransition_cfg (l : Bool) (s : State) : (scheduleTransition l s).cfg = s.cfg := rfl
@[simp] theorem scheduleTransition_out (l : Bool) (s : State) : (scheduleTransition l s).out = s.out ++ [.schedule l] := rfl
@[simp] theorem scheduleTransition_readData (l : Bool) (s : State) : (scheduleTransition l s).readData = s.readData := rfl
@[simp] theorem scheduleTransition_saved (l : Bool) (s : State) : (scheduleTransition l s).saved = s.saved := rfl
@[simp] theorem scheduleTransition_draws (l : Bool) (s : State) : (scheduleTransition l s).draws = s.draws := rfl
@[simp] theorem scheduleTransition_consAtBreakpoint (l : Bool) (s : State) : (scheduleTransition l s).consAtBreakpoint = s.consAtBreakpoint := rfl
@[simp] theorem scheduleTransition_interleaved (l : Bool) (s : State) : (scheduleTransition l s).interleaved = s.interleaved := rfl
@[simp] theorem scheduleTransition_issued (l : Bool) (s : State) : (scheduleTransition l s).issued = s.issued := rfl

/-! ### `evaluateHits` -/

@[simp] theorem evaluateHits_base (s : State) : (evaluateHits s).base = s.base := rfl
@[simp] theorem evaluateHits_endAddr (s : State) : (evaluateHits s).endAddr = s.endAddr := rfl
@[simp] theorem evaluateHits_writePointer (s : State) : (evaluateHits s).writePointer = s.writePointer := rfl
@[simp] theorem evaluateHits_readPointer (s : State) : (evaluateHits s).readPointer = s.readPointer := rfl
@[simp] theorem evaluateHits_safeReadPointer (s : State) : (evaluateHits s).safeReadPointer = s.safeReadPointer := rfl
@[simp] theorem evaluateHits_distance (s : State) : (evaluateHits s).distance = s.distance := rfl
@[simp] theorem evaluateHits_hiWatermark (s : State) : (evaluateHits s).hiWatermark = s.hiWatermark := rfl
@[simp] theorem evaluateHits_loWatermark (s : State) : (evaluateHits s).loWatermark = s.loWatermark := rfl
@[simp] theorem evaluateHits_breakpoint (s : State) : (evaluateHits s).breakpoint = s.breakpoint := rfl
@[simp] theorem evaluateHits_linkEnabled (s : State) : (evaluateHits s).linkEnabled = s.linkEnabled := rfl
@[simp] theorem evaluateHits_readEnabled (s : State) : (evaluateHits s).readEnabled = s.readEnabled := rfl
@[simp] theorem evaluateHits_breakpointEnabled (s : State) : (evaluateHits s).breakpointEnabled = s.breakpointEnabled := rfl
@[simp] theorem evaluateHits_breakpointInterruptEnabled (s : State) : (evaluateHits s).breakpointInterruptEnabled = s.breakpointInterruptEnabled := rfl
@[simp] theorem evaluateHits_breakpointHit (s : State) : (evaluateHits s).breakpointHit = newBreakpointHit s.toDescriptor := rfl
@[simp] theorem evaluateHits_hiWatermarkInterruptEnabled (s : State) : (evaluateHits s).hiWatermarkInterruptEnabled = s.hiWatermarkInterruptEnabled := rfl
@[simp] theorem evaluateHits_loWatermarkInterruptEnabled (s : State) : (evaluateHits s).loWatermarkInterruptEnabled = s.loWatermarkInterruptEnabled := rfl
@[simp] theorem evaluateHits_hiWatermarkHit (s : State) : (evaluateHits s).hiWatermarkHit = newHiWatermarkHit s.toDescriptor := rfl
@[simp] theorem evaluateHits_loWatermarkHit (s : State) : (evaluateHits s).loWatermarkHit = newLoWatermarkHit s.toDescriptor := rfl
@[simp] theorem evaluateHits_bboxLeft (s : State) : (evaluateHits s).bboxLeft = s.bboxLeft := rfl
@[simp] theorem evaluateHits_bboxRight (s : State) : (evaluateHits s).bboxRight = s.bboxRight := rfl
@[simp] theorem evaluateHits_bboxTop (s : State) : (evaluateHits s).bboxTop = s.bboxTop := rfl
@[simp] theorem evaluateHits_bboxBottom (s : State) : (evaluateHits s).bboxBottom = s.bboxBottom := rfl
@[simp] theorem evaluateHits_token (s : State) : (evaluateHits s).token = s.token := rfl
@[simp] theorem evaluateHits_interruptAsserted (s : State) : (evaluateHits s).interruptAsserted = s.interruptAsserted := rfl
@[simp] theorem evaluateHits_interruptChangePending (s : State) : (evaluateHits s).interruptChangePending = s.interruptChangePending := rfl
@[simp] theorem evaluateHits_eventQueue (s : State) : (evaluateHits s).eventQueue = s.eventQueue := rfl
@[simp] theorem evaluateHits_linkBase (s : State) : (evaluateHits s).linkBase = s.linkBase := rfl
@[simp] theorem evaluateHits_linkEnd (s : State) : (evaluateHits s).linkEnd = s.linkEnd := rfl
@[simp] theorem evaluateHits_linkWritePointer (s : State) : (evaluateHits s).linkWritePointer = s.linkWritePointer := rfl
@[simp] theorem evaluateHits_fault (s : State) : (evaluateHits s).fault = s.fault := rfl
@[simp] theorem evaluateHits_cfg (s : State) : (evaluateHits s).cfg = s.cfg := rfl
@[simp] theorem evaluateHits_out (s : State) : (evaluateHits s).out = s.out := rfl
@[simp] theorem evaluateHits_readData (s : State) : (evaluateHits s).readData = s.readData := rfl
@[simp] theorem evaluateHits_saved (s : State) : (evaluateHits s).saved = s.saved := rfl
@[simp] theorem evaluateHits_draws (s : State) : (evaluateHits s).draws = s.draws := rfl
@[simp] theorem evaluateHits_consAtBreakpoint (s : State) : (evaluateHits s).consAtBreakpoint = s.consAtBreakpoint := rfl
@[simp] theorem evaluateHits_interleaved (s : State) : (evaluateHits s).interleaved = s.interleaved := rfl
@[simp] theorem evaluateHits_issued (s : State) : (evaluateHits s).issued = s.issued := rfl

/-! ### `raiseFatal` -/

@[simp] theorem raiseFatal_toSavedCore (r : FatalReason) (s : State) : (raiseFatal r s).toSavedCore = s.toSavedCore := rfl
@[simp] theorem raiseFatal_eventQueue (r : FatalReason) (s : State) : (raiseFatal r s).eventQueue = s.eventQueue := rfl
@[simp] theorem raiseFatal_linkBase (r : FatalReason) (s : State) : (raiseFatal r s).linkBase = s.linkBase := rfl
@[simp] theorem raiseFatal_linkEnd (r : FatalReason) (s : State) : (raiseFatal r s).linkEnd = s.linkEnd := rfl
@[simp] theorem raiseFatal_linkWritePointer (r : FatalReason) (s : State) : (raiseFatal r s).linkWritePointer = s.linkWritePointer := rfl
@[simp] theorem raiseFatal_fault (r : FatalReason) (s : State) : (raiseFatal r s).fault = some r := rfl
@[simp] theorem raiseFatal_cfg (r : FatalReason) (s : State) : (raiseFatal r s).cfg = s.cfg := rfl
@[simp] theorem raiseFatal_out (r : FatalReason) (s : State) : (raiseFatal r s).out = s.out ++ [.fatal r s.toDescriptor] := rfl
@[simp] theorem raiseFatal_readData (r : FatalReason) (s : State) : (raiseFatal r s).readData = s.readData := rfl
@[simp] theorem raiseFatal_saved (r : FatalReason) (s : State) : (raiseFatal r s).saved = s.saved := rfl
@[simp] theorem raiseFatal_draws (r : FatalReason) (s : State) : (raiseFatal r s).draws = s.draws := rfl
@[simp] theorem raiseFatal_consAtBreakpoint (r : FatalReason) (s : State) : (raiseFatal r s).consAtBreakpoint = s.consAtBreakpoint := rfl
@[simp] theorem raiseFatal_interleaved (r : FatalReason) (s : State) : (raiseFatal r s).interleaved = s.interleaved := rfl
@[simp] theorem raiseFatal_issued (r : FatalReason) (s : State) : (raiseFatal r s).issued = s.issued := rfl

/-! ### `setReadPointer` -/

@[simp] theorem setReadPointer_base (v : U32) (s : State) : (setReadPointer v s).base = s.base := rfl
@[simp] theorem setReadPointer_endAddr (v : U32) (s : State) : (setReadPointer v s).endAddr = s.endAddr := rfl
@[simp] theorem setReadPointer_writePointer (v : U32) (s : State) : (setReadPointer v s).writePointer = s.writePointer := rfl
@[simp] theorem setReadPointer_readPointer (v : U32) (s : State) : (setReadPointer v s).readPointer = v := rfl
@[simp] theorem setReadPointer_safeReadPointer (v : U32) (s : State) : (setReadPointer v s).safeReadPointer = s.safeReadPointer := rfl
@[simp] theorem setReadPointer_distance (v : U32) (s : State) : (setReadPointer v s).distance = s.distance := rfl
@[simp] theorem setReadPointer_hiWatermark (v : U32) (s : State) : (setReadPointer v s).hiWatermark = s.hiWatermark := rfl
@[simp] theorem setReadPointer_loWatermark (v : U32) (s : State) : (setReadPointer v s).loWatermark = s.loWatermark := rfl
@[simp] theorem setReadPointer_breakpoint (v : U32) (s : State) : (setReadPointer v s).breakpoint = s.breakpoint := rfl
@[simp] theorem setReadPointer_linkEnabled (v : U32) (s : State) : (setReadPointer v s).linkEnabled = s.linkEnabled := rfl
@[simp] theorem setReadPointer_readEnabled (v : U32) (s : State) : (setReadPointer v s).readEnabled = s.readEnabled := rfl
@[simp] theorem setReadPointer_breakpointEnabled (v : U32) (s : State) : (setReadPointer v s).breakpointEnabled = s.breakpointEnabled := rfl
@[simp] theorem setReadPointer_breakpointInterruptEnabled (v : U32) (s : State) : (setReadPointer v s).breakpointInterruptEnabled = s.breakpointInterruptEnabled := rfl
@[simp] theorem setReadPointer_breakpointHit (v : U32) (s : State) : (setReadPointer v s).breakpointHit = s.breakpointHit := rfl
@[simp] theorem setReadPointer_hiWatermarkInterruptEnabled (v : U32) (s : State) : (setReadPointer v s).hiWatermarkInterruptEnabled = s.hiWatermarkInterruptEnabled := rfl
@[simp] theorem setReadPointer_loWatermarkInterruptEnabled (v : U32) (s : State) : (setReadPointer v s).loWatermarkInterruptEnabled = s.loWatermarkInterruptEnabled := rfl
@[simp] theorem setReadPointer_hiWatermarkHit (v : U32) (s : State) : (setReadPointer v s).hiWatermarkHit = s.hiWatermarkHit := rfl
@[simp] theorem setReadPointer_loWatermarkHit (v : U32) (s : State) : (setReadPointer v s).loWatermarkHit = s.loWatermarkHit := rfl
@[simp] theorem setReadPointer_bboxLeft (v : U32) (s : State) : (setReadPointer v s).bboxLeft = s.bboxLeft := rfl
@[simp] theorem setReadPointer_bboxRight (v : U32) (s : State) : (setReadPointer v s).bboxRight = s.bboxRight := rfl
@[simp] theorem setReadPointer_bboxTop (v : U32) (s : State) : (setReadPointer v s).bboxTop = s.bboxTop := rfl
@[simp] theorem setReadPointer_bboxBottom (v : U32) (s : State) : (setReadPointer v s).bboxBottom = s.bboxBottom := rfl
@[simp] theorem setReadPointer_token (v : U32) (s : State) : (setReadPointer v s).token = s.token := rfl
@[simp] theorem setReadPointer_interruptAsserted (v : U32) (s : State) : (setReadPointer v s).interruptAsserted = s.interruptAsserted := rfl
@[simp] theorem setReadPointer_interruptChangePending (v : U32) (s : State) : (setReadPointer v s).interruptChangePending = s.interruptChangePending := rfl
@[simp] theorem setReadPointer_eventQueue (v : U32) (s : State) : (setReadPointer v s).eventQueue = s.eventQueue := rfl
@[simp] theorem setReadPointer_linkBase (v : U32) (s : State) : (setReadPointer v s).linkBase = s.linkBase := rfl
@[simp] theorem setReadPointer_linkEnd (v : U32) (s : State) : (setReadPointer v s).linkEnd = s.linkEnd := rfl
@[simp] theorem setReadPointer_linkWritePointer (v : U32) (s : State) : (setReadPointer v s).linkWritePointer = s.linkWritePointer := rfl
@[simp] theorem setReadPointer_fault (v : U32) (s : State) : (setReadPointer v s).fault = s.fault := rfl
@[simp] theorem setReadPointer_cfg (v : U32) (s : State) : (setReadPointer v s).cfg = s.cfg := rfl
@[simp] theorem setReadPointer_out (v : U32) (s : State) : (setReadPointer v s).out = s.out := rfl
@[simp] theorem setReadPointer_readData (v : U32) (s : State) : (setReadPointer v s).readData = s.readData := rfl
@[simp] theorem setReadPointer_saved (v : U32) (s : State) : (setReadPointer v s).saved = s.saved := rfl
@[simp] theorem setReadPointer_draws (v : U32) (s : State) : (setReadPointer v s).draws = s.draws := rfl
@[simp] theorem setReadPointer_consAtBreakpoint (v : U32) (s : State) : (setReadPointer v s).consAtBreakpoint = s.consAtBreakpoint := rfl
@[simp] theorem setReadPointer_interleaved (v : U32) (s : State) : (setReadPointer v s).interleaved = s.interleaved := rfl
@[simp] theorem setReadPointer_issued (v : U32) (s : State) : (setReadPointer v s).issued = s.issued := rfl

/-! ### `subDistance` -/

@[simp] theorem subDistance_base (n : U32) (s : State) : (subDistance n s).base = s.base := rfl
@[simp] theorem subDistance_endAddr (n : U32) (s : State) : (subDistance n s).endAddr = s.endAddr := rfl
@[simp] theorem subDistance_writePointer (n : U32) (s : State) : (subDistance n s).writePointer = s.writePointer := rfl
@[simp] theorem subDistance_readPointer (n : U32) (s : State) : (subDistance n s).readPointer = s.readPointer := rfl
@[simp] theorem subDistance_safeReadPointer (n : U32) (s : State) : (subDistance n s).safeReadPointer = s.safeReadPointer := rfl
@[simp] theorem subDistance_distance (n : U32) (s : State) : (subDistance n s).distance = s.distance - n := rfl
@[simp] theorem subDistance_hiWatermark (n : U32) (s : State) : (subDistance n s).hiWatermark = s.hiWatermark := rfl
@[simp] theorem subDistance_loWatermark (n : U32) (s : State) : (subDistance n s).loWatermark = s.loWatermark := rfl
@[simp] theorem subDistance_breakpoint (n : U32) (s : State) : (subDistance n s).breakpoint = s.breakpoint := rfl
@[simp] theorem subDistance_linkEnabled (n : U32) (s : State) : (subDistance n s).linkEnabled = s.linkEnabled := rfl
@[simp] theorem subDistance_readEnabled (n : U32) (s : State) : (subDistance n s).readEnabled = s.readEnabled := rfl
@[simp] theorem subDistance_breakpointEnabled (n : U32) (s : State) : (subDistance n s).breakpointEnabled = s.breakpointEnabled := rfl
@[simp] theorem subDistance_breakpointInterruptEnabled (n : U32) (s : State) : (subDistance n s).breakpointInterruptEnabled = s.breakpointInterruptEnabled := rfl
@[simp] theorem subDistance_breakpointHit (n : U32) (s : State) : (subDistance n s).breakpointHit = s.breakpointHit := rfl
@[simp] theorem subDistance_hiWatermarkInterruptEnabled (n : U32) (s : State) : (subDistance n s).hiWatermarkInterruptEnabled = s.hiWatermarkInterruptEnabled := rfl
@[simp] theorem subDistance_loWatermarkInterruptEnabled (n : U32) (s : State) : (subDistance n s).loWatermarkInterruptEnabled = s.loWatermarkInterruptEnabled := rfl
@[simp] theorem subDistance_hiWatermarkHit (n : U32) (s : State) : (subDistance n s).hiWatermarkHit = s.hiWatermarkHit := rfl
@[simp] theorem subDistance_loWatermarkHit (n : U32) (s : State) : (subDistance n s).loWatermarkHit = s.loWatermarkHit := rfl
@[simp] theorem subDistance_bboxLeft (n : U32) (s : State) : (subDistance n s).bboxLeft = s.bboxLeft := rfl
@[simp] theorem subDistance_bboxRight (n : U32) (s : State) : (subDistance n s).bboxRight = s.bboxRight := rfl
@[simp] theorem subDistance_bboxTop (n : U32) (s : State) : (subDistance n s).bboxTop = s.bboxTop := rfl
@[simp] theorem subDistance_bboxBottom (n : U32) (s : State) : (subDistance n s).bboxBottom = s.bboxBottom := rfl
@[simp] theorem subDistance_token (n : U32) (s : State) : (subDistance n s).token = s.token := rfl
@[simp] theorem subDistance_interruptAsserted (n : U32) (s : State) : (subDistance n s).interruptAsserted = s.interruptAsserted := rfl
@[simp] theorem subDistance_interruptChangePending (n : U32) (s : State) : (subDistance n s).interruptChangePending = s.interruptChangePending := rfl
@[simp] theorem subDistance_eventQueue (n : U32) (s : State) : (subDistance n s).eventQueue = s.eventQueue := rfl
@[simp] theorem subDistance_linkBase (n : U32) (s : State) : (subDistance n s).linkBase = s.linkBase := rfl
@[simp] theorem subDistance_linkEnd (n : U32) (s : State) : (subDistance n s).linkEnd = s.linkEnd := rfl
@[simp] theorem subDistance_linkWritePointer (n : U32) (s : State) : (subDistance n s).linkWritePointer = s.linkWritePointer := rfl
@[simp] theorem subDistance_fault (n : U32) (s : State) : (subDistance n s).fault = s.fault := rfl
@[simp] theorem subDistance_cfg (n : U32) (s : State) : (subDistance n s).cfg = s.cfg := rfl
@[simp] theorem subDistance_out (n : U32) (s : State) : (subDistance n s).out = s.out := rfl
@[simp] theorem subDistance_readData (n : U32) (s : State) : (subDistance n s).readData = s.readData := rfl
@[simp] theorem subDistance_saved (n : U32) (s : State) : (subDistance n s).saved = s.saved := rfl
@[simp] theorem subDistance_draws (n : U32) (s : State) : (subDistance n s).draws = s.draws := rfl
@[simp] theorem subDistance_consAtBreakpoint (n : U32) (s : State) : (subDistance n s).consAtBreakpoint = s.consAtBreakpoint := rfl
@[simp] theorem subDistance_interleaved (n : U32) (s : State) : (subDistance n s).interleaved = s.interleaved := rfl
@[simp] theorem subDistance_issued (n : U32) (s : State) : (subDistance n s).issued = s.issued := rfl

/-! ### `publishSafe` -/

@[simp] theorem publishSafe_base (v : U32) (s : State) : (publishSafe v s).base = s.base := rfl
@[simp] theorem publishSafe_endAddr (v : U32) (s : State) : (publishSafe v s).endAddr = s.endAddr := rfl
@[simp] theorem publishSafe_writePointer (v : U32) (s : State) : (publishSafe v s).writePointer = s.writePointer := rfl
@[simp] theorem publishSafe_readPointer (v : U32) (s : State) : (publishSafe v s).readPointer = s.readPointer := rfl
@[simp] theorem publishSafe_safeReadPointer (v : U32) (s : State) : (publishSafe v s).safeReadPointer = v := rfl
@[simp] theorem publishSafe_distance (v : U32) (s : State) : (publishSafe v s).distance = s.distance := rfl
@[simp] theorem publishSafe_hiWatermark (v : U32) (s : State) : (publishSafe v s).hiWatermark = s.hiWatermark := rfl
@[simp] theorem publishSafe_loWatermark (v : U32) (s : State) : (publishSafe v s).loWatermark = s.loWatermark := rfl
@[simp] theorem publishSafe_breakpoint (v : U32) (s : State) : (publishSafe v s).breakpoint = s.breakpoint := rfl
@[simp] theorem publishSafe_linkEnabled (v : U32) (s : State) : (publishSafe v s).linkEnabled = s.linkEnabled := rfl
@[simp] theorem publishSafe_readEnabled (v : U32) (s : State) : (publishSafe v s).readEnabled = s.readEnabled := rfl
@[simp] theorem publishSafe_breakpointEnabled (v : U32) (s : State) : (publishSafe v s).breakpointEnabled = s.breakpointEnabled := rfl
@[simp] theorem publishSafe_breakpointInterruptEnabled (v : U32) (s : State) : (publishSafe v s).breakpointInterruptEnabled = s.breakpointInterruptEnabled := rfl
@[simp] theorem publishSafe_breakpointHit (v : U32) (s : State) : (publishSafe v s).breakpointHit = s.breakpointHit := rfl
@[simp] theorem publishSafe_hiWatermarkInterruptEnabled (v : U32) (s : State) : (publishSafe v s).hiWatermarkInterruptEnabled = s.hiWatermarkInterruptEnabled := rfl
@[simp] theorem publishSafe_loWatermarkInterruptEnabled (v : U32) (s : State) : (publishSafe v s).loWatermarkInterruptEnabled = s.loWatermarkInterruptEnabled := rfl
@[simp] theorem publishSafe_hiWatermarkHit (v : U32) (s : State) : (publishSafe v s).hiWatermarkHit = s.hiWatermarkHit := rfl
@[simp] theorem publishSafe_loWatermarkHit (v : U32) (s : State) : (publishSafe v s).loWatermarkHit = s.loWatermarkHit := rfl
@[simp] theorem publishSafe_bboxLeft (v : U32) (s : State) : (publishSafe v s).bboxLeft = s.bboxLeft := rfl
@[simp] theorem publishSafe_bboxRight (v : U32) (s : State) : (publishSafe v s).bboxRight = s.bboxRight := rfl
@[simp] theorem publishSafe_bboxTop (v : U32) (s : State) : (publishSafe v s).bboxTop = s.bboxTop := rfl
@[simp] theorem publishSafe_bboxBottom (v : U32) (s : State) : (publishSafe v s).bboxBottom = s.bboxBottom := rfl
@[simp] theorem publishSafe_token (v : U32) (s : State) : (publishSafe v s).token = s.token := rfl
@[simp] theorem publishSafe_interruptAsserted (v : U32) (s : State) : (publishSafe v s).interruptAsserted = s.interruptAsserted := rfl
@[simp] theorem publishSafe_interruptChangePending (v : U32) (s : State) : (publishSafe v s).interruptChangePending = s.interruptChangePending := rfl
@[simp] theorem publishSafe_eventQueue (v : U32) (s : State) : (publishSafe v s).eventQueue = s.eventQueue := rfl
@[simp] theorem publishSafe_linkBase (v : U32) (s : State) : (publishSafe v s).linkBase = s.linkBase := rfl
@[simp] theorem publishSafe_linkEnd (v : U32) (s : State) : (publishSafe v s).linkEnd = s.linkEnd := rfl
@[simp] theorem publishSafe_linkWritePointer (v : U32) (s : State) : (publishSafe v s).linkWritePointer = s.linkWritePointer := rfl
@[simp] theorem publishSafe_fault (v : U32) (s : State) : (publishSafe v s).fault = s.fault := rfl
@[simp] theorem publishSafe_cfg (v : U32) (s : State) : (publishSafe v s).cfg = s.cfg := rfl
@[simp] theorem publishSafe_out (v : U32) (s : State) : (publishSafe v s).out = s.out := rfl
@[simp] theorem publishSafe_readData (v : U32) (s : State) : (publishSafe v s).readData = s.readData := rfl
@[simp] theorem publishSafe_saved (v : U32) (s : State) : (publishSafe v s).saved = s.saved := rfl
@[simp] theorem publishSafe_draws (v : U32) (s : State) : (publishSafe v s).draws = s.draws := rfl
@[simp] theorem publishSafe_consAtBreakpoint (v : U32) (s : State) : (publishSafe v s).consAtBreakpoint = s.consAtBreakpoint := rfl
@[simp] theorem publishSafe_interleaved (v : U32) (s : State) : (publishSafe v s).interleaved = s.interleaved := rfl
@[simp] theorem publishSafe_issued (v : U32) (s : State) : (publishSafe v s).issued = s.issued := rfl

/-! ### `setBbox` -/

@[simp] theorem setBbox_toDescriptor (l r t b : U16) (s : State) : (setBbox l r t b s).toDescriptor = s.toDescriptor := rfl
@[simp] theorem setBbox_bboxLeft (l r t b : U16) (s : State) : (setBbox l r t b s).bboxLeft = l := rfl
@[simp] theorem setBbox_bboxRight (l r t b : U16) (s : State) : (setBbox l r t b s).bboxRight = r := rfl
@[simp] theorem setBbox_bboxTop (l r t b : U16) (s : State) : (setBbox l r t b s).bboxTop = t := rfl
@[simp] theorem setBbox_bboxBottom (l r t b : U16) (s : State) : (setBbox l r t b s).bboxBottom = b := rfl
@[simp] theorem setBbox_token (l r t b : U16) (s : State) : (setBbox l r t b s).token = s.token := rfl
@[simp] theorem setBbox_interruptAsserted (l r t b : U16) (s : State) : (setBbox l r t b s).interruptAsserted = s.interruptAsserted := rfl
@[simp] theorem setBbox_interruptChangePending (l r t b : U16) (s : State) : (setBbox l r t b s).interruptChangePending = s.interruptChangePending := rfl
@[simp] theorem setBbox_eventQueue (l r t b : U16) (s : State) : (setBbox l r t b s).eventQueue = s.eventQueue := rfl
@[simp] theorem setBbox_linkBase (l r t b : U16) (s : State) : (setBbox l r t b s).linkBase = s.linkBase := rfl
@[simp] theorem setBbox_linkEnd (l r t b : U16) (s : State) : (setBbox l r t b s).linkEnd = s.linkEnd := rfl
@[simp] theorem setBbox_linkWritePointer (l r t b : U16) (s : State) : (setBbox l r t b s).linkWritePointer = s.linkWritePointer := rfl
@[simp] theorem setBbox_fault (l r t b : U16) (s : State) : (setBbox l r t b s).fault = s.fault := rfl
@[simp] theorem setBbox_cfg (l r t b : U16) (s : State) : (setBbox l r t b s).cfg = s.cfg := rfl
@[simp] theorem setBbox_out (l r t b : U16) (s : State) : (setBbox l r t b s).out = s.out := rfl
@[simp] theorem setBbox_readData (l r t b : U16) (s : State) : (setBbox l r t b s).readData = s.readData := rfl
@[simp] theorem setBbox_saved (l r t b : U16) (s : State) : (setBbox l r t b s).saved = s.saved := rfl
@[simp] theorem setBbox_draws (l r t b : U16) (s : State) : (setBbox l r t b s).draws = s.draws := rfl
@[simp] theorem setBbox_consAtBreakpoint (l r t b : U16) (s : State) : (setBbox l r t b s).consAtBreakpoint = s.consAtBreakpoint := rfl
@[simp] theorem setBbox_interleaved (l r t b : U16) (s : State) : (setBbox l r t b s).interleaved = s.interleaved := rfl
@[simp] theorem setBbox_issued (l r t b : U16) (s : State) : (setBbox l r t b s).issued = s.issued := rfl

/-! ### `burstAdvance` -/

@[simp] theorem burstAdvance_base (n : U32) (s : State) : (burstAdvance n s).base = s.base := rfl
@[simp] theorem burstAdvance_endAddr (n : U32) (s : State) : (burstAdvance n s).endAddr = s.endAddr := rfl
@[simp] theorem burstAdvance_writePointer (n : U32) (s : State) : (burstAdvance n s).writePointer = wrapPointer s.base s.endAddr (s.writePointer + n) := rfl
@[simp] theorem burstAdvance_readPointer (n : U32) (s : State) : (burstAdvance n s).readPointer = s.readPointer := rfl
@[simp] theorem burstAdvance_safeReadPointer (n : U32) (s : State) : (burstAdvance n s).safeReadPointer = s.safeReadPointer := rfl
@[simp] theorem burstAdvance_distance (n : U32) (s : State) : (burstAdvance n s).distance = s.distance := rfl
@[simp] theorem burstAdvance_hiWatermark (n : U32) (s : State) : (burstAdvance n s).hiWatermark = s.hiWatermark := rfl
@[simp] theorem burstAdvance_loWatermark (n : U32) (s : State) : (burstAdvance n s).loWatermark = s.loWatermark := rfl
@[simp] theorem burstAdvance_breakpoint (n : U32) (s : State) : (burstAdvance n s).breakpoint = s.breakpoint := rfl
@[simp] theorem burstAdvance_linkEnabled (n : U32) (s : State) : (burstAdvance n s).linkEnabled = s.linkEnabled := rfl
@[simp] theorem burstAdvance_readEnabled (n : U32) (s : State) : (burstAdvance n s).readEnabled = s.readEnabled := rfl
@[simp] theorem burstAdvance_breakpointEnabled (n : U32) (s : State) : (burstAdvance n s).breakpointEnabled = s.breakpointEnabled := rfl
@[simp] theorem burstAdvance_breakpointInterruptEnabled (n : U32) (s : State) : (burstAdvance n s).breakpointInterruptEnabled = s.breakpointInterruptEnabled := rfl
@[simp] theorem burstAdvance_breakpointHit (n : U32) (s : State) : (burstAdvance n s).breakpointHit = s.breakpointHit := rfl
@[simp] theorem burstAdvance_hiWatermarkInterruptEnabled (n : U32) (s : State) : (burstAdvance n s).hiWatermarkInterruptEnabled = s.hiWatermarkInterruptEnabled := rfl
@[simp] theorem burstAdvance_loWatermarkInterruptEnabled (n : U32) (s : State) : (burstAdvance n s).loWatermarkInterruptEnabled = s.loWatermarkInterruptEnabled := rfl
@[simp] theorem burstAdvance_hiWatermarkHit (n : U32) (s : State) : (burstAdvance n s).hiWatermarkHit = s.hiWatermarkHit := rfl
@[simp] theorem burstAdvance_loWatermarkHit (n : U32) (s : State) : (burstAdvance n s).loWatermarkHit = s.loWatermarkHit := rfl
@[simp] theorem burstAdvance_bboxLeft (n : U32) (s : State) : (burstAdvance n s).bboxLeft = s.bboxLeft := rfl
@[simp] theorem burstAdvance_bboxRight (n : U32) (s : State) : (burstAdvance n s).bboxRight = s.bboxRight := rfl
@[simp] theorem burstAdvance_bboxTop (n : U32) (s : State) : (burstAdvance n s).bboxTop = s.bboxTop := rfl
@[simp] theorem burstAdvance_bboxBottom (n : U32) (s : State) : (burstAdvance n s).bboxBottom = s.bboxBottom := rfl
@[simp] theorem burstAdvance_token (n : U32) (s : State) : (burstAdvance n s).token = s.token := rfl
@[simp] theorem burstAdvance_interruptAsserted (n : U32) (s : State) : (burstAdvance n s).interruptAsserted = s.interruptAsserted := rfl
@[simp] theorem burstAdvance_interruptChangePending (n : U32) (s : State) : (burstAdvance n s).interruptChangePending = s.interruptChangePending := rfl
@[simp] theorem burstAdvance_eventQueue (n : U32) (s : State) : (burstAdvance n s).eventQueue = s.eventQueue := rfl
@[simp] theorem burstAdvance_linkBase (n : U32) (s : State) : (burstAdvance n s).linkBase = s.linkBase := rfl
@[simp] theorem burstAdvance_linkEnd (n : U32) (s : State) : (burstAdvance n s).linkEnd = s.linkEnd := rfl
@[simp] theorem burstAdvance_linkWritePointer (n : U32) (s : State) : (burstAdvance n s).linkWritePointer = s.linkWritePointer := rfl
@[simp] theorem burstAdvance_fault (n : U32) (s : State) : (burstAdvance n s).fault = s.fault := rfl
@[simp] theorem burstAdvance_cfg (n : U32) (s : State) : (burstAdvance n s).cfg = s.cfg := rfl
@[simp] theorem burstAdvance_out (n : U32) (s : State) : (burstAdvance n s).out = s.out := rfl
@[simp] theorem burstAdvance_readData (n : U32) (s : State) : (burstAdvance n s).readData = s.readData := rfl
@[simp] theorem burstAdvance_saved (n : U32) (s : State) : (burstAdvance n s).saved = s.saved := rfl
@[simp] theorem burstAdvance_draws (n : U32) (s : State) : (burstAdvance n s).draws = s.draws := rfl
@[simp] theorem burstAdvance_consAtBreakpoint (n : U32) (s : State) : (burstAdvance n s).consAtBreakpoint = s.consAtBreakpoint := rfl
@[simp] theorem burstAdvance_interleaved (n : U32) (s : State) : (burstAdvance n s).interleaved = s.interleaved := rfl
@[simp] theorem burstAdvance_issued (n : U32) (s : State) : (burstAdvance n s).issued = s.issued := rfl

/-! ### `burstAdd` -/

@[simp] theorem burstAdd_base (n : U32) (s : State) : (burstAdd n s).base = s.base := rfl
@[simp] theorem burstAdd_endAddr (n : U32) (s : State) : (burstAdd n s).endAddr = s.endAddr := rfl
@[simp] theorem burstAdd_writePointer (n : U32) (s : State) : (burstAdd n s).writePointer = s.writePointer := rfl
@[simp] theorem burstAdd_readPointer (n : U32) (s : State) : (burstAdd n s).readPointer = s.readPointer := rfl
@[simp] theorem burstAdd_safeReadPointer (n : U32) (s : State) : (burstAdd n s).safeReadPointer = s.safeReadPointer := rfl
@[simp] theorem burstAdd_distance (n : U32) (s : State) : (burstAdd n s).distance = s.distance + n := rfl
@[simp] theorem burstAdd_hiWatermark (n : U32) (s : State) : (burstAdd n s).hiWatermark = s.hiWatermark := rfl
@[simp] theorem burstAdd_loWatermark (n : U32) (s : State) : (burstAdd n s).loWatermark = s.loWatermark := rfl
@[simp] theorem burstAdd_breakpoint (n : U32) (s : State) : (burstAdd n s).breakpoint = s.breakpoint := rfl
@[simp] theorem burstAdd_linkEnabled (n : U32) (s : State) : (burstAdd n s).linkEnabled = s.linkEnabled := rfl
@[simp] theorem burstAdd_readEnabled (n : U32) (s : State) : (burstAdd n s).readEnabled = s.readEnabled := rfl
@[simp] theorem burstAdd_breakpointEnabled (n : U32) (s : State) : (burstAdd n s).breakpointEnabled = s.breakpointEnabled := rfl
@[simp] theorem burstAdd_breakpointInterruptEnabled (n : U32) (s : State) : (burstAdd n s).breakpointInterruptEnabled = s.breakpointInterruptEnabled := rfl
@[simp] theorem burstAdd_breakpointHit (n : U32) (s : State) : (burstAdd n s).breakpointHit = s.breakpointHit := rfl
@[simp] theorem burstAdd_hiWatermarkInterruptEnabled (n : U32) (s : State) : (burstAdd n s).hiWatermarkInterruptEnabled = s.hiWatermarkInterruptEnabled := rfl
@[simp] theorem burstAdd_loWatermarkInterruptEnabled (n : U32) (s : State) : (burstAdd n s).loWatermarkInterruptEnabled = s.loWatermarkInterruptEnabled := rfl
@[simp] theorem burstAdd_hiWatermarkHit (n : U32) (s : State) : (burstAdd n s).hiWatermarkHit = s.hiWatermarkHit := rfl
@[simp] theorem burstAdd_loWatermarkHit (n : U32) (s : State) : (burstAdd n s).loWatermarkHit = s.loWatermarkHit := rfl
@[simp] theorem burstAdd_bboxLeft (n : U32) (s : State) : (burstAdd n s).bboxLeft = s.bboxLeft := rfl
@[simp] theorem burstAdd_bboxRight (n : U32) (s : State) : (burstAdd n s).bboxRight = s.bboxRight := rfl
@[simp] theorem burstAdd_bboxTop (n : U32) (s : State) : (burstAdd n s).bboxTop = s.bboxTop := rfl
@[simp] theorem burstAdd_bboxBottom (n : U32) (s : State) : (burstAdd n s).bboxBottom = s.bboxBottom := rfl
@[simp] theorem burstAdd_token (n : U32) (s : State) : (burstAdd n s).token = s.token := rfl
@[simp] theorem burstAdd_interruptAsserted (n : U32) (s : State) : (burstAdd n s).interruptAsserted = s.interruptAsserted := rfl
@[simp] theorem burstAdd_interruptChangePending (n : U32) (s : State) : (burstAdd n s).interruptChangePending = s.interruptChangePending := rfl
@[simp] theorem burstAdd_eventQueue (n : U32) (s : State) : (burstAdd n s).eventQueue = s.eventQueue := rfl
@[simp] theorem burstAdd_linkBase (n : U32) (s : State) : (burstAdd n s).linkBase = s.linkBase := rfl
@[simp] theorem burstAdd_linkEnd (n : U32) (s : State) : (burstAdd n s).linkEnd = s.linkEnd := rfl
@[simp] theorem burstAdd_linkWritePointer (n : U32) (s : State) : (burstAdd n s).linkWritePointer = s.linkWritePointer := rfl
@[simp] theorem burstAdd_fault (n : U32) (s : State) : (burstAdd n s).fault = s.fault := rfl
@[simp] theorem burstAdd_cfg (n : U32) (s : State) : (burstAdd n s).cfg = s.cfg := rfl
@[simp] theorem burstAdd_out (n : U32) (s : State) : (burstAdd n s).out = s.out := rfl
@[simp] theorem burstAdd_readData (n : U32) (s : State) : (burstAdd n s).readData = s.readData := rfl
@[simp] theorem burstAdd_saved (n : U32) (s : State) : (burstAdd n s).saved = s.saved := rfl
@[simp] theorem burstAdd_draws (n : U32) (s : State) : (burstAdd n s).draws = s.draws := rfl
@[simp] theorem burstAdd_consAtBreakpoint (n : U32) (s : State) : (burstAdd n s).consAtBreakpoint = s.consAtBreakpoint := rfl
@[simp] theorem burstAdd_interleaved (n : U32) (s : State) : (burstAdd n s).interleaved = s.interleaved := rfl
@[simp] theorem burstAdd_issued (n : U32) (s : State) : (burstAdd n s).issued = s.issued := rfl

/-! ### `controlReadEnable` -/

@[simp] theorem controlReadEnable_base (v : U16) (s : State) : (controlReadEnable v s).base = s.base := rfl
@[simp] theorem controlReadEnable_endAddr (v : U16) (s : State) : (controlReadEnable v s).endAddr = s.endAddr := rfl
@[simp] theorem controlReadEnable_writePointer (v : U16) (s : State) : (controlReadEnable v s).writePointer = s.writePointer := rfl
@[simp] theorem controlReadEnable_readPointer (v : U16) (s : State) : (controlReadEnable v s).readPointer = s.readPointer := rfl
@[simp] theorem controlReadEnable_safeReadPointer (v : U16) (s : State) : (controlReadEnable v s).safeReadPointer = s.safeReadPointer := rfl
@[simp] theorem controlReadEnable_distance (v : U16) (s : State) : (controlReadEnable v s).distance = s.distance := rfl
@[simp] theorem controlReadEnable_hiWatermark (v : U16) (s : State) : (controlReadEnable v s).hiWatermark = s.hiWatermark := rfl
@[simp] theorem controlReadEnable_loWatermark (v : U16) (s : State) : (controlReadEnable v s).loWatermark = s.loWatermark := rfl
@[simp] theorem controlReadEnable_breakpoint (v : U16) (s : State) : (controlReadEnable v s).breakpoint = s.breakpoint := rfl
@[simp] theorem controlReadEnable_linkEnabled (v : U16) (s : State) : (controlReadEnable v s).linkEnabled = s.linkEnabled := rfl
@[simp] theorem controlReadEnable_readEnabled (v : U16) (s : State) : (controlReadEnable v s).readEnabled = v.getLsbD s.cfg.controlBits.readEnable.val := rfl
@[simp] theorem controlReadEnable_breakpointEnabled (v : U16) (s : State) : (controlReadEnable v s).breakpointEnabled = s.breakpointEnabled := rfl
@[simp] theorem controlReadEnable_breakpointInterruptEnabled (v : U16) (s : State) : (controlReadEnable v s).breakpointInterruptEnabled = s.breakpointInterruptEnabled := rfl
@[simp] theorem controlReadEnable_breakpointHit (v : U16) (s : State) : (controlReadEnable v s).breakpointHit = s.breakpointHit := rfl
@[simp] theorem controlReadEnable_hiWatermarkInterruptEnabled (v : U16) (s : State) : (controlReadEnable v s).hiWatermarkInterruptEnabled = s.hiWatermarkInterruptEnabled := rfl
@[simp] theorem controlReadEnable_loWatermarkInterruptEnabled (v : U16) (s : State) : (controlReadEnable v s).loWatermarkInterruptEnabled = s.loWatermarkInterruptEnabled := rfl
@[simp] theorem controlReadEnable_hiWatermarkHit (v : U16) (s : State) : (controlReadEnable v s).hiWatermarkHit = s.hiWatermarkHit := rfl
@[simp] theorem controlReadEnable_loWatermarkHit (v : U16) (s : State) : (controlReadEnable v s).loWatermarkHit = s.loWatermarkHit := rfl
@[simp] theorem controlReadEnable_bboxLeft (v : U16) (s : State) : (controlReadEnable v s).bboxLeft = s.bboxLeft := rfl
@[simp] theorem controlReadEnable_bboxRight (v : U16) (s : State) : (controlReadEnable v s).bboxRight = s.bboxRight := rfl
@[simp] theorem controlReadEnable_bboxTop (v : U16) (s : State) : (controlReadEnable v s).bboxTop = s.bboxTop := rfl
@[simp] theorem controlReadEnable_bboxBottom (v : U16) (s : State) : (controlReadEnable v s).bboxBottom = s.bboxBottom := rfl
@[simp] theorem controlReadEnable_token (v : U16) (s : State) : (controlReadEnable v s).token = s.token := rfl
@[simp] theorem controlReadEnable_interruptAsserted (v : U16) (s : State) : (controlReadEnable v s).interruptAsserted = s.interruptAsserted := rfl
@[simp] theorem controlReadEnable_interruptChangePending (v : U16) (s : State) : (controlReadEnable v s).interruptChangePending = s.interruptChangePending := rfl
@[simp] theorem controlReadEnable_eventQueue (v : U16) (s : State) : (controlReadEnable v s).eventQueue = s.eventQueue := rfl
@[simp] theorem controlReadEnable_linkBase (v : U16) (s : State) : (controlReadEnable v s).linkBase = s.linkBase := rfl
@[simp] theorem controlReadEnable_linkEnd (v : U16) (s : State) : (controlReadEnable v s).linkEnd = s.linkEnd := rfl
@[simp] theorem controlReadEnable_linkWritePointer (v : U16) (s : State) : (controlReadEnable v s).linkWritePointer = s.linkWritePointer := rfl
@[simp] theorem controlReadEnable_fault (v : U16) (s : State) : (controlReadEnable v s).fault = s.fault := rfl
@[simp] theorem controlReadEnable_cfg (v : U16) (s : State) : (controlReadEnable v s).cfg = s.cfg := rfl
@[simp] theorem controlReadEnable_out (v : U16) (s : State) : (controlReadEnable v s).out = s.out := rfl
@[simp] theorem controlReadEnable_readData (v : U16) (s : State) : (controlReadEnable v s).readData = s.readData := rfl
@[simp] theorem controlReadEnable_saved (v : U16) (s : State) : (controlReadEnable v s).saved = s.saved := rfl
@[simp] theorem controlReadEnable_draws (v : U16) (s : State) : (controlReadEnable v s).draws = s.draws := rfl
@[simp] theorem controlReadEnable_consAtBreakpoint (v : U16) (s : State) : (controlReadEnable v s).consAtBreakpoint = s.consAtBreakpoint := rfl
@[simp] theorem controlReadEnable_interleaved (v : U16) (s : State) : (controlReadEnable v s).interleaved = s.interleaved := rfl
@[simp] theorem controlReadEnable_issued (v : U16) (s : State) : (controlReadEnable v s).issued = s.issued := rfl

/-! ### `controlFlags` -/

@[simp] theorem controlFlags_base (v : U16) (s : State) : (controlFlags v s).base = s.base := rfl
@[simp] theorem controlFlags_endAddr (v : U16) (s : State) : (controlFlags v s).endAddr = s.endAddr := rfl
@[simp] theorem controlFlags_writePointer (v : U16) (s : State) : (controlFlags v s).writePointer = s.writePointer := rfl
@[simp] theorem controlFlags_readPointer (v : U16) (s : State) : (controlFlags v s).readPointer = s.readPointer := rfl
@[simp] theorem controlFlags_safeReadPointer (v : U16) (s : State) : (controlFlags v s).safeReadPointer = s.safeReadPointer := rfl
@[simp] theorem controlFlags_distance (v : U16) (s : State) : (controlFlags v s).distance = s.distance := rfl
@[simp] theorem controlFlags_hiWatermark (v : U16) (s : State) : (controlFlags v s).hiWatermark = s.hiWatermark := rfl
@[simp] theorem controlFlags_loWatermark (v : U16) (s : State) : (controlFlags v s).loWatermark = s.loWatermark := rfl
@[simp] theorem controlFlags_breakpoint (v : U16) (s : State) : (controlFlags v s).breakpoint = s.breakpoint := rfl
@[simp] theorem controlFlags_linkEnabled (v : U16) (s : State) : (controlFlags v s).linkEnabled = v.getLsbD s.cfg.controlBits.link.val := rfl
@[simp] theorem controlFlags_readEnabled (v : U16) (s : State) : (controlFlags v s).readEnabled = s.readEnabled := rfl
@[simp] theorem controlFlags_breakpointEnabled (v : U16) (s : State) : (controlFlags v s).breakpointEnabled = v.getLsbD s.cfg.controlBits.bpEnable.val := rfl
@[simp] theorem controlFlags_breakpointInterruptEnabled (v : U16) (s : State) : (controlFlags v s).breakpointInterruptEnabled = v.getLsbD s.cfg.controlBits.bpInt.val := rfl
@[simp] theorem controlFlags_breakpointHit (v : U16) (s : State) : (controlFlags v s).breakpointHit = s.breakpointHit := rfl
@[simp] theorem controlFlags_hiWatermarkInterruptEnabled (v : U16) (s : State) : (controlFlags v s).hiWatermarkInterruptEnabled = v.getLsbD s.cfg.controlBits.hiInt.val := rfl
@[simp] theorem controlFlags_loWatermarkInterruptEnabled (v : U16) (s : State) : (controlFlags v s).loWatermarkInterruptEnabled = v.getLsbD s.cfg.controlBits.loInt.val := rfl
@[simp] theorem controlFlags_hiWatermarkHit (v : U16) (s : State) : (controlFlags v s).hiWatermarkHit = s.hiWatermarkHit := rfl
@[simp] theorem controlFlags_loWatermarkHit (v : U16) (s : State) : (controlFlags v s).loWatermarkHit = s.loWatermarkHit := rfl
@[simp] theorem controlFlags_bboxLeft (v : U16) (s : State) : (controlFlags v s).bboxLeft = s.bboxLeft := rfl
@[simp] theorem controlFlags_bboxRight (v : U16) (s : State) : (controlFlags v s).bboxRight = s.bboxRight := rfl
@[simp] theorem controlFlags_bboxTop (v : U16) (s : State) : (controlFlags v s).bboxTop = s.bboxTop := rfl
@[simp] theorem controlFlags_bboxBottom (v : U16) (s : State) : (controlFlags v s).bboxBottom = s.bboxBottom := rfl
@[simp] theorem controlFlags_token (v : U16) (s : State) : (controlFlags v s).token = s.token := rfl
@[simp] theorem controlFlags_interruptAsserted (v : U16) (s : State) : (controlFlags v s).interruptAsserted = s.interruptAsserted := rfl
@[simp] theorem controlFlags_interruptChangePending (v : U16) (s : State) : (controlFlags v s).interruptChangePending = s.interruptChangePending := rfl
@[simp] theorem controlFlags_eventQueue (v : U16) (s : State) : (controlFlags v s).eventQueue = s.eventQueue := rfl
@[simp] theorem controlFlags_linkBase (v : U16) (s : State) : (controlFlags v s).linkBase = s.linkBase := rfl
@[simp] theorem controlFlags_linkEnd (v : U16) (s : State) : (controlFlags v s).linkEnd = s.linkEnd := rfl
@[simp] theorem controlFlags_linkWritePointer (v : U16) (s : State) : (controlFlags v s).linkWritePointer = s.linkWritePointer := rfl
@[simp] theorem controlFlags_fault (v : U16) (s : State) : (controlFlags v s).fault = s.fault := rfl
@[simp] theorem controlFlags_cfg (v : U16) (s : State) : (controlFlags v s).cfg = s.cfg := rfl
@[simp] theorem controlFlags_out (v : U16) (s : State) : (controlFlags v s).out = s.out := rfl
@[simp] theorem controlFlags_readData (v : U16) (s : State) : (controlFlags v s).readData = s.readData := rfl
@[simp] theorem controlFlags_saved (v : U16) (s : State) : (controlFlags v s).saved = s.saved := rfl
@[simp] theorem controlFlags_draws (v : U16) (s : State) : (controlFlags v s).draws = s.draws := rfl
@[simp] theorem controlFlags_consAtBreakpoint (v : U16) (s : State) : (controlFlags v s).consAtBreakpoint = s.consAtBreakpoint := rfl
@[simp] theorem controlFlags_interleaved (v : U16) (s : State) : (controlFlags v s).interleaved = s.interleaved := rfl
@[simp] theorem controlFlags_issued (v : U16) (s : State) : (controlFlags v s).issued = s.issued := rfl

/-! ### `installSnapshot` -/

@[simp] theorem installSnapshot_toSavedCore (x : Snapshot) (s : State) : (installSnapshot x s).toSavedCore = x.core := rfl
@[simp] theorem installSnapshot_eventQueue (x : Snapshot) (s : State) : (installSnapshot x s).eventQueue = x.queue := rfl
@[simp] theorem installSnapshot_linkBase (x : Snapshot) (s : State) : (installSnapshot x s).linkBase = s.linkBase := rfl
@[simp] theorem installSnapshot_linkEnd (x : Snapshot) (s : State) : (installSnapshot x s).linkEnd = s.linkEnd := rfl
@[simp] theorem installSnapshot_linkWritePointer (x : Snapshot) (s : State) : (installSnapshot x s).linkWritePointer = s.linkWritePointer := rfl
@[simp] theorem installSnapshot_fault (x : Snapshot) (s : State) : (installSnapshot x s).fault = s.fault := rfl
@[simp] theorem installSnapshot_cfg (x : Snapshot) (s : State) : (installSnapshot x s).cfg = s.cfg := rfl
@[simp] theorem installSnapshot_out (x : Snapshot) (s : State) : (installSnapshot x s).out = s.out := rfl
@[simp] theorem installSnapshot_readData (x : Snapshot) (s : State) : (installSnapshot x s).readData = s.readData := rfl
@[simp] theorem installSnapshot_saved (x : Snapshot) (s : State) : (installSnapshot x s).saved = s.saved := rfl
@[simp] theorem installSnapshot_draws (x : Snapshot) (s : State) : (installSnapshot x s).draws = s.draws := rfl
@[simp] theorem installSnapshot_consAtBreakpoint (x : Snapshot) (s : State) : (installSnapshot x s).consAtBreakpoint = s.consAtBreakpoint := rfl
@[simp] theorem installSnapshot_interleaved (x : Snapshot) (s : State) : (installSnapshot x s).interleaved = s.interleaved := rfl
@[simp] theorem installSnapshot_issued (x : Snapshot) (s : State) : (installSnapshot x s).issued = s.issued := rfl

/-! ### `resetTracker` -/

@[simp] theorem resetTracker_toSavedCore (s : State) : (resetTracker s).toSavedCore = (State.resetOf s.cfg).toSavedCore := rfl
@[simp] theorem resetTracker_eventQueue (s : State) : (resetTracker s).eventQueue = [] := rfl
@[simp] theorem resetTracker_linkBase (s : State) : (resetTracker s).linkBase = 0 := rfl
@[simp] theorem resetTracker_linkEnd (s : State) : (resetTracker s).linkEnd = 0 := rfl
@[simp] theorem resetTracker_linkWritePointer (s : State) : (resetTracker s).linkWritePointer = 0 := rfl
@[simp] theorem resetTracker_fault (s : State) : (resetTracker s).fault = none := rfl
@[simp] theorem resetTracker_cfg (s : State) : (resetTracker s).cfg = s.cfg := rfl
@[simp] theorem resetTracker_out (s : State) : (resetTracker s).out = s.out := rfl
@[simp] theorem resetTracker_readData (s : State) : (resetTracker s).readData = s.readData := rfl
@[simp] theorem resetTracker_saved (s : State) : (resetTracker s).saved = s.saved := rfl
@[simp] theorem resetTracker_draws (s : State) : (resetTracker s).draws = s.draws := rfl
@[simp] theorem resetTracker_consAtBreakpoint (s : State) : (resetTracker s).consAtBreakpoint = s.consAtBreakpoint := rfl
@[simp] theorem resetTracker_interleaved (s : State) : (resetTracker s).interleaved = s.interleaved := rfl
@[simp] theorem resetTracker_issued (s : State) : (resetTracker s).issued = s.issued := rfl

/-! ### `acceptIssued` -/

@[simp] theorem acceptIssued_toSavedCore (o : Issued) (r : List Issued) (s : State) : (acceptIssued o r s).toSavedCore = s.toSavedCore := rfl
@[simp] theorem acceptIssued_eventQueue (o : Issued) (r : List Issued) (s : State) : (acceptIssued o r s).eventQueue = s.eventQueue := rfl
@[simp] theorem acceptIssued_linkBase (o : Issued) (r : List Issued) (s : State) : (acceptIssued o r s).linkBase = s.linkBase := rfl
@[simp] theorem acceptIssued_linkEnd (o : Issued) (r : List Issued) (s : State) : (acceptIssued o r s).linkEnd = s.linkEnd := rfl
@[simp] theorem acceptIssued_linkWritePointer (o : Issued) (r : List Issued) (s : State) : (acceptIssued o r s).linkWritePointer = s.linkWritePointer := rfl
@[simp] theorem acceptIssued_fault (o : Issued) (r : List Issued) (s : State) : (acceptIssued o r s).fault = s.fault := rfl
@[simp] theorem acceptIssued_cfg (o : Issued) (r : List Issued) (s : State) : (acceptIssued o r s).cfg = s.cfg := rfl
@[simp] theorem acceptIssued_out (o : Issued) (r : List Issued) (s : State) : (acceptIssued o r s).out = s.out := rfl
@[simp] theorem acceptIssued_readData (o : Issued) (r : List Issued) (s : State) : (acceptIssued o r s).readData = s.readData := rfl
@[simp] theorem acceptIssued_saved (o : Issued) (r : List Issued) (s : State) : (acceptIssued o r s).saved = s.saved := rfl
@[simp] theorem acceptIssued_draws (o : Issued) (r : List Issued) (s : State) : (acceptIssued o r s).draws = s.draws := rfl
@[simp] theorem acceptIssued_consAtBreakpoint (o : Issued) (r : List Issued) (s : State) : (acceptIssued o r s).consAtBreakpoint = o.consAtBreakpoint := rfl
@[simp] theorem acceptIssued_interleaved (o : Issued) (r : List Issued) (s : State) : (acceptIssued o r s).interleaved = o.interleaved := rfl
@[simp] theorem acceptIssued_issued (o : Issued) (r : List Issued) (s : State) : (acceptIssued o r s).issued = r := rfl

end Sys2Proof.Machine
end

