-- ==== Sys2Proof/Laws/Ops.lean ====
section
/-! SUPPORT. Ops.lean: what each shared operation can do, said once: the halted guard, the evaluator, the consumer port, the consumer-side
operations inside another operation, the producer's steps. -/

namespace Sys2Proof.Machine

/-! ### The halted guard -/

theorem whenRunning_running {s : State} (h : Running s) (r : Result) : whenRunning s r = r := by
  simp only [whenRunning, show s.fault = none from h]

theorem whenRunning_halted {s : State} {reason : FatalReason} (h : s.fault = some reason) (r : Result) :
    whenRunning s r = .refused (.halted reason) := by
  simp only [whenRunning, h]

/-- If the guard answers a next state, the tracker runs and the guarded result is that state. -/
theorem whenRunning_next {s t : State} {r : Result} (h : whenRunning s r = .next t) : Running s ∧ r = .next t := by
  unfold whenRunning at h
  split at h
  · exact ⟨‹_›, h⟩
  · cases h

/-! ### The evaluator -/

/-- An evaluation ends in one of three ways (44_interrupt_evaluator.md R270). -/
theorem evaluate_cases (side : Side) (s : State) :
    (evaluate side s = evaluateHits s ∧
      (compositeCondition (refreshHits s.toDescriptor) = s.interruptAsserted ∨ s.interruptChangePending = true)) ∨
    (evaluate side s = scheduleTransition (compositeCondition (refreshHits s.toDescriptor)) (evaluateHits s) ∧
      compositeCondition (refreshHits s.toDescriptor) ≠ s.interruptAsserted ∧ s.interruptChangePending = false ∧
      side = .gpu ∧ s.cfg.dualThread = true) ∨
    (evaluate side s = applyTransition (compositeCondition (refreshHits s.toDescriptor)) (evaluateHits s) ∧
      compositeCondition (refreshHits s.toDescriptor) ≠ s.interruptAsserted ∧ s.interruptChangePending = false ∧
      ¬(side = .gpu ∧ s.cfg.dualThread = true)) := by
  have hd : (evaluateHits s).toDescriptor = refreshHits s.toDescriptor := rfl
  unfold evaluate settleLine
  simp only [hd, evaluateHits_interruptAsserted, evaluateHits_interruptChangePending, evaluateHits_cfg]
  by_cases h1 : compositeCondition (refreshHits s.toDescriptor) ≠ s.interruptAsserted ∧ s.interruptChangePending = false
  · rw [if_pos h1]
    by_cases h2 : side = .gpu ∧ s.cfg.dualThread = true
    · rw [if_pos h2]; exact .inr (.inl ⟨rfl, h1.1, h1.2, h2⟩)
    · rw [if_neg h2]; exact .inr (.inr ⟨rfl, h1.1, h1.2, h2⟩)
  · rw [if_neg h1]
    refine .inl ⟨rfl, ?_⟩
    by_contra hc
    simp only [not_or, Bool.not_eq_true] at hc
    exact h1 hc

/-- What an evaluation leaves (44_interrupt_evaluator.md R276): everything but the hit flags, the latch pair, the queue and the trace. -/
theorem evaluate_toDescriptor (side : Side) (s : State) : (evaluate side s).toDescriptor = refreshHits s.toDescriptor := by
  rcases evaluate_cases side s with ⟨h, -⟩ | ⟨h, -⟩ | ⟨h, -⟩ <;> rw [h] <;> rfl

/-! ### What no consumer-side operation changes -/

/-- Everything the consumer side does not write (10_state.md R50). -/
def ConsumerFrame (s t : State) : Prop :=
  SameProgramming s t ∧ s.writePointer = t.writePointer ∧ SameLinkState s t ∧ s.fault = t.fault ∧ SameSurroundings s t

theorem ConsumerFrame_refl (s : State) : ConsumerFrame s s := by
  simp [ConsumerFrame, SameProgramming, SameLinkState, SameSurroundings]

theorem ConsumerFrame_trans {s t u : State} (h : ConsumerFrame s t) (k : ConsumerFrame t u) : ConsumerFrame s u := by
  simp only [ConsumerFrame, SameProgramming, SameLinkState, SameSurroundings] at *
  simp_all

theorem evaluate_frame (side : Side) (s : State) : ConsumerFrame s (evaluate side s) := by
  rcases evaluate_cases side s with ⟨h, -⟩ | ⟨h, -⟩ | ⟨h, -⟩ <;> rw [h] <;>
    simp [ConsumerFrame, SameProgramming, SameLinkState, SameSurroundings, refreshHits]

theorem emit_frame (e : List Event) (s : State) : ConsumerFrame s (emit e s) := by
  simp [ConsumerFrame, SameProgramming, SameLinkState, SameSurroundings]

theorem consumerStep_frame (op : ConsumerOp) (s : State) : ConsumerFrame s (consumerStep op s) := by
  cases op with
  | evalGpu => exact evaluate_frame .gpu s
  | rpSet v => simp [consumerStep, ConsumerFrame, SameProgramming, SameLinkState, SameSurroundings]
  | distSub n => simp [consumerStep, ConsumerFrame, SameProgramming, SameLinkState, SameSurroundings]
  | safePublish v => simp [consumerStep, ConsumerFrame, SameProgramming, SameLinkState, SameSurroundings]
  | bboxSet l r t b => simp [consumerStep, ConsumerFrame, SameProgramming, SameLinkState, SameSurroundings]

/-! ### Runs of consumer-side operations -/

/-- What every operation of a list keeps, the run of the list keeps. -/
theorem runConsumer_keeps (P : State → Prop) (ops : List ConsumerOp) (hop : ∀ op ∈ ops, ∀ s, P s → P (consumerStep op s)) (s : State)
    (h : P s) : P (runConsumer ops s) := by
  induction ops generalizing s with
  | nil => exact h
  | cons op rest ih =>
    exact ih (fun o ho => hop o (List.mem_cons_of_mem _ ho)) _ (hop op List.mem_cons_self s h)

theorem runConsumer_frame (ops : List ConsumerOp) (s : State) : ConsumerFrame s (runConsumer ops s) :=
  runConsumer_keeps (ConsumerFrame s) ops (fun op _ _ h => ConsumerFrame_trans h (consumerStep_frame op _)) s (ConsumerFrame_refl s)

@[simp] theorem runConsumer_nil (s : State) : runConsumer [] s = s := rfl

theorem between_keeps (P : State → Prop) (ops : List ConsumerOp) (hop : ∀ op ∈ ops, ∀ s, P s → P (consumerStep op s)) (s : State)
    (h : P s) : P (between ops s) := by
  unfold between
  split
  · exact runConsumer_keeps P ops hop s h
  · exact h

theorem between_frame (ops : List ConsumerOp) (s : State) : ConsumerFrame s (between ops s) :=
  between_keeps (ConsumerFrame s) ops (fun op _ _ h => ConsumerFrame_trans h (consumerStep_frame op _)) s (ConsumerFrame_refl s)

@[simp] theorem between_nil (s : State) : between [] s = s := by simp [between]

theorem between_singleThread {s : State} (h : s.cfg.dualThread = false) (ops : List ConsumerOp) : between ops s = s := by
  simp [between, h]

theorem callFlush_frame (s : State) : ConsumerFrame s (callFlush s) :=
  ConsumerFrame_trans (emit_frame _ _) (runConsumer_frame _ _)

theorem callFlush_keeps (P : State → Prop) (s : State) (hop : ∀ op ∈ s.interleaved.flush, ∀ s, P s → P (consumerStep op s))
    (h : P (emit [.flushGpu] s)) : P (callFlush s) :=
  runConsumer_keeps P _ hop _ h

/-! ### Nothing between the steps -/

theorem NothingBetween_frame {s t : State} (h : NothingBetween s) (k : ConsumerFrame s t) : NothingBetween t := by
  obtain ⟨-, -, -, -, hc, -, -, -, -, hi, -⟩ := k
  unfold NothingBetween at *
  rw [← hc, ← hi]
  exact h

theorem NothingBetween_gaps {s : State} (h : NothingBetween s) {t : State} (hc : t.cfg = s.cfg) :
    between s.interleaved.after1 t = t ∧ between s.interleaved.after2a t = t ∧ between s.interleaved.after2 t = t ∧
      between s.interleaved.after3 t = t ∧ between s.interleaved.after4 t = t ∧ between s.interleaved.after5 t = t ∧
      between s.interleaved.after6 t = t := by
  rcases h with h | ⟨h1, h2, h3, h4, h5, h6, h7⟩
  · have ht : t.cfg.dualThread = false := by rw [hc]; exact h
    simp only [between_singleThread ht, and_self]
  · simp [h1, h2, h3, h4, h5, h6, h7]

end Sys2Proof.Machine
end

