-- ==== Sys2Proof/Laws/Operands.lean ====
section
/-! SUPPORT. Operands.lean: the small laws of the halves of a split register, of the masked write and of a bit of a computed register. -/

namespace Sys2Proof.Machine

/-- The bits of a concatenation (00_scope.md R13). -/
theorem getLsbD_join (h l : U16) (n : Nat) : (join h l).getLsbD n = if n < 16 then l.getLsbD n else h.getLsbD (n - 16) :=
  BitVec.getLsbD_append

theorem getLsbD_lo16 (f : U32) (n : Nat) (hn : n < 16) : (lo16 f).getLsbD n = f.getLsbD n := by
  simp [lo16, hn]

theorem getLsbD_hi16 (f : U32) (n : Nat) (hn : n < 16) : (hi16 f).getLsbD n = f.getLsbD (n + 16) := by
  simp [hi16, hn, Nat.add_comm]

@[simp] theorem lo16_join (h l : U16) : lo16 (join h l) = l := by
  apply BitVec.eq_of_getLsbD_eq
  intro i hi
  rw [getLsbD_lo16 _ i hi, getLsbD_join, if_pos hi]

@[simp] theorem hi16_join (h l : U16) : hi16 (join h l) = h := by
  apply BitVec.eq_of_getLsbD_eq
  intro i hi
  rw [getLsbD_hi16 _ i hi, getLsbD_join, if_neg (by omega), Nat.add_sub_cancel]

theorem join_halves (f : U32) : join (hi16 f) (lo16 f) = f := by
  apply BitVec.eq_of_getLsbD_eq
  intro i hi
  rw [getLsbD_join]
  split
  · rw [getLsbD_lo16 _ i ‹_›]
  · rw [getLsbD_hi16 _ _ (by omega)]
    congr 1
    omega

@[simp] theorem lo16_writeLo (c : Config) (f : U32) (v : U16) : lo16 (writeLo c f v) = maskedWrite c loMask (lo16 f) v := lo16_join _ _
@[simp] theorem hi16_writeLo (c : Config) (f : U32) (v : U16) : hi16 (writeLo c f v) = hi16 f := hi16_join _ _
@[simp] theorem lo16_writeHi (c : Config) (f : U32) (v : U16) : lo16 (writeHi c f v) = lo16 f := lo16_join _ _
@[simp] theorem hi16_writeHi (c : Config) (f : U32) (v : U16) : hi16 (writeHi c f v) = maskedWrite c c.hiMask (hi16 f) v := hi16_join _ _

/-- The masked-write law with `MASKED_WRITE_KEEPS_OLD` (41_mmio_writes.md R184). -/
theorem maskedWrite_keeps {c : Config} (h : c.maskedWriteKeepsOld = true) (m old v : U16) :
    maskedWrite c m old v = (old &&& ~~~m) ||| (v &&& m) := by
  simp [maskedWrite, h]

/-- The masked-write law bit by bit, under either setting. -/
theorem maskedWrite_getLsbD (c : Config) (m old v : U16) (n : Nat) (hn : n < 16) :
    (maskedWrite c m old v).getLsbD n = if m.getLsbD n then v.getLsbD n else c.maskedWriteKeepsOld && old.getLsbD n := by
  unfold maskedWrite
  simp only [BitVec.getLsbD_or, BitVec.getLsbD_and]
  cases c.maskedWriteKeepsOld <;> cases hm : m.getLsbD n <;> simp [BitVec.getLsbD_and, BitVec.getLsbD_not, hm, hn, -BitVec.getLsbD_eq_getElem]

theorem getLsbD_writeLo (c : Config) (f : U32) (v : U16) (n : Nat) (hn : n < 16) :
    (writeLo c f v).getLsbD n = if loMask.getLsbD n then v.getLsbD n else c.maskedWriteKeepsOld && f.getLsbD n := by
  rw [← getLsbD_lo16 _ n hn, lo16_writeLo, maskedWrite_getLsbD _ _ _ _ _ hn, getLsbD_lo16 _ n hn]

theorem getLsbD_writeHi (c : Config) (f : U32) (v : U16) (n : Nat) (hn : n < 16) :
    (writeHi c f v).getLsbD (n + 16) = if c.hiMask.getLsbD n then v.getLsbD n else c.maskedWriteKeepsOld && f.getLsbD (n + 16) := by
  rw [← getLsbD_hi16 _ n hn, hi16_writeHi, maskedWrite_getLsbD _ _ _ _ _ hn, getLsbD_hi16 _ n hn]

/-- The bit of one position of a computed register. -/
theorem bitAt_getLsbD (n m : Fin 16) (b : Bool) : (bitAt n b).getLsbD m.val = (b && decide (n = m)) := by
  cases b
  · simp [bitAt]
  · simp only [bitAt, ↓reduceIte, BitVec.getLsbD_shiftLeft, m.isLt, decide_true, Bool.true_and, BitVec.getLsbD_one]
    by_cases h : n = m
    · subst h; simp
    · have : n.val ≠ m.val := fun e => h (Fin.ext e)
      simp only [h, decide_false]
      by_cases h2 : m.val < n.val
      · simp [h2]
      · have : m.val - n.val ≠ 0 := by omega
        simp [this]

end Sys2Proof.Machine
end

