-- ==== Sys2Proof/Laws/Access.lean ====
section
/-! SUPPORT. Access.lean: what register accesses can do, over all registers at once. -/

namespace Sys2Proof.Machine

/-- A read that answers a next state changed the value read, and the counter of drawn values for PERF_SELECT, and nothing else
(20_memory.md R69). -/
theorem exec_readInstr_next {r : Reg} {s t : State} (h : exec (readInstr r) s = .next t) :
    Running s ∧ ((r = .perfSelect ∧ t = { s with readData := some (Config.draw16 s.draws), draws := s.draws + 1 }) ∨
      ∃ v, t = { s with readData := some v }) := by
  cases r with
  | perfSelect =>
    obtain ⟨hr, h⟩ := whenRunning_next (r := .next { s with readData := some (Config.draw16 s.draws), draws := s.draws + 1 }) h
    exact ⟨hr, .inl ⟨rfl, by cases h; rfl⟩⟩
  | _ =>
    obtain ⟨hr, h⟩ := whenRunning_next h
    exact ⟨hr, .inr ⟨_, by cases h; rfl⟩⟩

/-- A running tracker completes every read. -/
theorem exec_readInstr_completes {r : Reg} {s : State} (h : Running s) : ∃ t, exec (readInstr r) s = .next t := by
  cases r <;> exact ⟨_, whenRunning_running h _⟩

/-- A running tracker completes every write. -/
theorem exec_writeInstr_completes {r : Reg} {s : State} (h : Running s) (v : U16) : ∃ t, exec (writeInstr r v) s = .next t := by
  cases r <;> exact ⟨_, whenRunning_running h _⟩

/-- Writes to a `_LO` half store into one field (41_mmio_writes.md section 4). -/
theorem exec_writeLo {s : State} (h : Running s) (f : SplitField) (v : U16) :
    exec (writeInstr (loReg f) v) s = .next (match f with
      | .fifoBase => { s with base := writeLo s.cfg s.base v }
      | .fifoEnd => { s with endAddr := writeLo s.cfg s.endAddr v }
      | .fifoHiWatermark => { s with hiWatermark := writeLo s.cfg s.hiWatermark v }
      | .fifoLoWatermark => { s with loWatermark := writeLo s.cfg s.loWatermark v }
      | .fifoRwDistance => { s with distance := writeLo s.cfg s.distance v }
      | .fifoWritePointer => { s with writePointer := writeLo s.cfg s.writePointer v }
      | .fifoReadPointer => { s with readPointer := writeLo s.cfg s.readPointer v }
      | .fifoBp => { s with breakpoint := writeLo s.cfg s.breakpoint v }) := by
  cases f <;> exact whenRunning_running h _

/-- Writes to a `_HI` half store into one field (41_mmio_writes.md section 4). -/
theorem exec_writeHi {s : State} (h : Running s) (f : SplitField) (v : U16) :
    exec (writeInstr (hiReg f) v) s = .next (match f with
      | .fifoBase => { s with base := writeHi s.cfg s.base v }
      | .fifoEnd => { s with endAddr := writeHi s.cfg s.endAddr v }
      | .fifoHiWatermark => { s with hiWatermark := writeHi s.cfg s.hiWatermark v }
      | .fifoLoWatermark => { s with loWatermark := writeHi s.cfg s.loWatermark v }
      | .fifoRwDistance => { s with distance := writeHi s.cfg s.distance v }
      | .fifoWritePointer => { s with writePointer := writeHi s.cfg s.writePointer v }
      | .fifoReadPointer => { s with readPointer := writeHi s.cfg s.readPointer v }
      | .fifoBp => { s with breakpoint := writeHi s.cfg s.breakpoint v }) := by
  cases f <;> exact whenRunning_running h _

/-- Every register write is one of four kinds: CONTROL, TOKEN, a half of a split field, or one that changes nothing. -/
theorem writeInstr_kinds (r : Reg) :
    r = .control ∨ r = .token ∨ (∃ f, r = loReg f ∨ r = hiReg f) ∨
      ∀ (s : State) (v : U16), exec (writeInstr r v) s = whenRunning s (.next s) := by
  cases r
  case control => exact .inl rfl
  case token => exact .inr (.inl rfl)
  case fifoBaseLo => exact .inr (.inr (.inl ⟨.fifoBase, .inl rfl⟩))
  case fifoBaseHi => exact .inr (.inr (.inl ⟨.fifoBase, .inr rfl⟩))
  case fifoEndLo => exact .inr (.inr (.inl ⟨.fifoEnd, .inl rfl⟩))
  case fifoEndHi => exact .inr (.inr (.inl ⟨.fifoEnd, .inr rfl⟩))
  case fifoHiWatermarkLo => exact .inr (.inr (.inl ⟨.fifoHiWatermark, .inl rfl⟩))
  case fifoHiWatermarkHi => exact .inr (.inr (.inl ⟨.fifoHiWatermark, .inr rfl⟩))
  case fifoLoWatermarkLo => exact .inr (.inr (.inl ⟨.fifoLoWatermark, .inl rfl⟩))
  case fifoLoWatermarkHi => exact .inr (.inr (.inl ⟨.fifoLoWatermark, .inr rfl⟩))
  case fifoRwDistanceLo => exact .inr (.inr (.inl ⟨.fifoRwDistance, .inl rfl⟩))
  case fifoRwDistanceHi => exact .inr (.inr (.inl ⟨.fifoRwDistance, .inr rfl⟩))
  case fifoWritePointerLo => exact .inr (.inr (.inl ⟨.fifoWritePointer, .inl rfl⟩))
  case fifoWritePointerHi => exact .inr (.inr (.inl ⟨.fifoWritePointer, .inr rfl⟩))
  case fifoReadPointerLo => exact .inr (.inr (.inl ⟨.fifoReadPointer, .inl rfl⟩))
  case fifoReadPointerHi => exact .inr (.inr (.inl ⟨.fifoReadPointer, .inr rfl⟩))
  case fifoBpLo => exact .inr (.inr (.inl ⟨.fifoBp, .inl rfl⟩))
  case fifoBpHi => exact .inr (.inr (.inl ⟨.fifoBp, .inr rfl⟩))
  all_goals exact .inr (.inr (.inr fun s v => rfl))

/-- A write that answers a next state (41_mmio_writes.md): CONTROL runs its steps, TOKEN stores, a half of a split register changes its one
field, every other register takes no write. -/
theorem exec_writeInstr_next {r : Reg} {v : U16} {s t : State} (h : exec (writeInstr r v) s = .next t) :
    Running s ∧ ((r = .control ∧ t = controlWrite v s) ∨
      (r = .token ∧ t = { s with token := maskedWrite s.cfg freeMask s.token v }) ∨
      (∃ (f : SplitField) (x : U32), (r = loReg f ∧ x = writeLo s.cfg (splitValue f s.toDescriptor) v ∨
          r = hiReg f ∧ x = writeHi s.cfg (splitValue f s.toDescriptor) v) ∧
        t = (match f with
          | .fifoBase => { s with base := x }
          | .fifoEnd => { s with endAddr := x }
          | .fifoHiWatermark => { s with hiWatermark := x }
          | .fifoLoWatermark => { s with loWatermark := x }
          | .fifoRwDistance => { s with distance := x }
          | .fifoWritePointer => { s with writePointer := x }
          | .fifoReadPointer => { s with readPointer := x }
          | .fifoBp => { s with breakpoint := x })) ∨
      t = s) := by
  rcases writeInstr_kinds r with rfl | rfl | ⟨f, rfl | rfl⟩ | hk
  · obtain ⟨hr, h⟩ := whenRunning_next h
    cases h
    exact ⟨hr, .inl ⟨rfl, rfl⟩⟩
  · obtain ⟨hr, h⟩ := whenRunning_next h
    cases h
    exact ⟨hr, .inr (.inl ⟨rfl, rfl⟩)⟩
  · have hr : Running s := by cases f <;> exact (whenRunning_next h).1
    rw [exec_writeLo hr] at h
    cases h
    refine ⟨hr, .inr (.inr (.inl ⟨f, _, .inl ⟨rfl, rfl⟩, ?_⟩))⟩
    cases f <;> rfl
  · have hr : Running s := by cases f <;> exact (whenRunning_next h).1
    rw [exec_writeHi hr] at h
    cases h
    refine ⟨hr, .inr (.inr (.inl ⟨f, _, .inr ⟨rfl, rfl⟩, ?_⟩))⟩
    cases f <;> rfl
  · rw [hk] at h
    obtain ⟨hr, h⟩ := whenRunning_next h
    cases h
    exact ⟨hr, .inr (.inr (.inr rfl))⟩

end Sys2Proof.Machine
end

