-- ==== Sys2Proof/Laws/Decode.lean ====
section
/-! SUPPORT. Decode.lean: the fields of an operation word, the register map as a lookup both ways, and the forms of the operations. -/

namespace Sys2Proof

/-- The bits of an operation word (30_encoding.md R90). -/
theorem getLsbD_mkWord (kind sel : BitVec 4) (off : U8) (data : U16) (n : Nat) :
    (mkWord kind sel off data).getLsbD n =
      if n < 16 then data.getLsbD n else if n < 24 then off.getLsbD (n - 16) else if n < 28 then sel.getLsbD (n - 24) else
        kind.getLsbD (n - 28) := by
  unfold mkWord
  simp only [BitVec.getLsbD_append]
  by_cases h1 : n < 16
  · simp [h1]
  · by_cases h2 : n < 24
    · simp [h1, h2, show n - 16 < 8 by omega]
    · have h3 : ¬ n - 16 < 8 := by omega
      by_cases h4 : n < 28
      · simp [h1, h2, h3, h4, Nat.sub_sub, show n - 24 < 4 by omega]
      · simp [h1, h2, h3, h4, Nat.sub_sub, show ¬ n - 24 < 4 by omega]

@[simp] theorem kindField_mkWord (kind sel : BitVec 4) (off : U8) (data : U16) : kindField (mkWord kind sel off data) = kind := by
  apply BitVec.eq_of_getLsbD_eq
  intro i hi
  simp only [kindField, BitVec.getLsbD_extractLsb', hi, decide_true, Bool.true_and, getLsbD_mkWord]
  rw [if_neg (by omega), if_neg (by omega), if_neg (by omega), Nat.add_sub_cancel_left]

@[simp] theorem selField_mkWord (kind sel : BitVec 4) (off : U8) (data : U16) : selField (mkWord kind sel off data) = sel := by
  apply BitVec.eq_of_getLsbD_eq
  intro i hi
  simp only [selField, BitVec.getLsbD_extractLsb', hi, decide_true, Bool.true_and, getLsbD_mkWord]
  rw [if_neg (by omega), if_neg (by omega), if_pos (by omega), Nat.add_sub_cancel_left]

@[simp] theorem offField_mkWord (kind sel : BitVec 4) (off : U8) (data : U16) : offField (mkWord kind sel off data) = off := by
  apply BitVec.eq_of_getLsbD_eq
  intro i hi
  simp only [offField, BitVec.getLsbD_extractLsb', hi, decide_true, Bool.true_and, getLsbD_mkWord]
  rw [if_neg (by omega), if_pos (by omega), Nat.add_sub_cancel_left]

@[simp] theorem dataField_mkWord (kind sel : BitVec 4) (off : U8) (data : U16) : dataField (mkWord kind sel off data) = data := by
  apply BitVec.eq_of_getLsbD_eq
  intro i hi
  simp only [dataField, BitVec.getLsbD_extractLsb', hi, decide_true, Bool.true_and, getLsbD_mkWord]
  rw [if_pos (by omega), Nat.zero_add]

/-- A word is the concatenation of its fields. -/
theorem mkWord_fields (w : U32) : mkWord (kindField w) (selField w) (offField w) (dataField w) = w := by
  apply BitVec.eq_of_getLsbD_eq
  intro i hi
  rw [getLsbD_mkWord]
  simp only [kindField, selField, offField, dataField, BitVec.getLsbD_extractLsb']
  split
  · simp [show i < 16 by omega]
  · split
    · simp [show i - 16 < 8 by omega, show 16 + (i - 16) = i by omega]
    · split
      · simp [show i - 24 < 4 by omega, show 24 + (i - 24) = i by omega]
      · simp [show i - 28 < 4 by omega, show 28 + (i - 28) = i by omega]

theorem distinct_cons {α : Type} [DecidableEq α] {a : α} {l : List α} (h : distinct (a :: l) = true) : a ∉ l ∧ distinct l = true := by
  simp only [distinct, Bool.and_eq_true, Bool.not_eq_true', List.contains_eq_mem, decide_eq_false_iff_not] at h
  exact h

theorem distinct_append_left {α : Type} [DecidableEq α] {l m : List α} (h : distinct (l ++ m) = true) : distinct l = true := by
  induction l with
  | nil => rfl
  | cons a rest ih =>
    obtain ⟨hn, hr⟩ := distinct_cons h
    simp only [distinct, ih hr, Bool.and_true, Bool.not_eq_true', List.contains_eq_mem, decide_eq_false_iff_not]
    exact fun hm => hn (List.mem_append_left _ hm)

/-- A register found in the map stands there with the offset it was found at. -/
theorem mem_of_regAt {m : List (Reg × U8)} {off : U8} {r : Reg} (h : regAt m off = some r) : (r, off) ∈ m := by
  induction m with
  | nil => cases h
  | cons e rest ih =>
    unfold regAt at h
    split at h
    · cases h; subst_vars; exact List.mem_cons_self
    · exact List.mem_cons_of_mem _ (ih h)

theorem mem_of_offsetIn {m : List (Reg × U8)} {off : U8} {r : Reg} (h : offsetIn m r = some off) : (r, off) ∈ m := by
  induction m with
  | nil => cases h
  | cons e rest ih =>
    unfold offsetIn at h
    split at h
    · cases h; subst_vars; exact List.mem_cons_self
    · exact List.mem_cons_of_mem _ (ih h)

/-- In a map with distinct offsets every entry is found by its offset. -/
theorem regAt_of_mem {m : List (Reg × U8)} (hd : distinct (m.map Prod.snd) = true) {off : U8} {r : Reg} (h : (r, off) ∈ m) :
    regAt m off = some r := by
  induction m with
  | nil => cases h
  | cons e rest ih =>
    obtain ⟨hn, hr⟩ := distinct_cons hd
    unfold regAt
    rcases List.mem_cons.mp h with rfl | h
    · simp
    · have : e.2 ≠ off := fun he => hn (he ▸ List.mem_map_of_mem h)
      rw [if_neg this]
      exact ih hr h

/-- In a map with distinct registers every entry is found by its register. -/
theorem offsetIn_of_mem {m : List (Reg × U8)} (hd : distinct (m.map Prod.fst) = true) {off : U8} {r : Reg} (h : (r, off) ∈ m) :
    offsetIn m r = some off := by
  induction m with
  | nil => cases h
  | cons e rest ih =>
    obtain ⟨hn, hr⟩ := distinct_cons hd
    unfold offsetIn
    rcases List.mem_cons.mp h with rfl | h
    · simp
    · have : e.1 ≠ r := fun he => hn (he ▸ List.mem_map_of_mem h)
      rw [if_neg this]
      exact ih hr h

/-- The checks of a well-formed configuration that concern the register map. -/
theorem Config.wellFormed_map {c : Config} (h : c.wellFormed = true) :
    (∀ e ∈ c.offsets, e.2.getLsbD 0 = false) ∧ distinct (c.offsets.map Prod.snd) = true ∧ distinct (c.offsets.map Prod.fst) = true := by
  simp only [Config.wellFormed, Bool.and_eq_true] at h
  obtain ⟨⟨⟨⟨h1, h2⟩, h3⟩, -⟩, -⟩ := h
  refine ⟨fun e he => ?_, distinct_append_left h2, h3⟩
  simp only [Config.offsetsEven, Bool.and_eq_true, List.all_eq_true, Bool.not_eq_true'] at h1
  exact h1.1 e he

/-- The form of a register access determines the operation. -/
theorem readInstr_of_form {i : Instr} {r : Reg} (h : i.form = .read r) : i = readInstr r := by
  cases i <;> simp only [Instr.form, reduceCtorEq, Form.read.injEq] at h <;> subst h <;> rfl

theorem writeInstr_of_form {i : Instr} {r : Reg} {v : U16} (h : i.form = .write r v) : i = writeInstr r v := by
  cases i <;> simp only [Instr.form, reduceCtorEq, Form.write.injEq] at h <;> obtain ⟨rfl, rfl⟩ := h <;> rfl

@[simp] theorem readInstr_form (r : Reg) : (readInstr r).form = .read r := by cases r <;> rfl
@[simp] theorem writeInstr_form (r : Reg) (v : U16) : (writeInstr r v).form = .write r v := by cases r <;> rfl

/-- The families of operations: a read, a write, or one of the ten port events. -/
theorem instr_families (i : Instr) :
    (∃ r, i = readInstr r) ∨ (∃ r v, i = writeInstr r v) ∨ (∃ size, i = .burst size) ∨ i = .evalGpu ∨ i = .deliver ∨
      (∃ v, i = .consRpSet v) ∨ (∃ n, i = .consDistSub n) ∨ (∃ v, i = .consSafePublish v) ∨ (∃ l r t b, i = .consBboxSet l r t b) ∨
      i = .snapshotSave ∨ (∃ snap, i = .snapshotRestore snap) ∨ i = .reset := by
  cases hf : i.form with
  | read r => exact .inl ⟨r, readInstr_of_form hf⟩
  | write r v => exact .inr (.inl ⟨r, v, writeInstr_of_form hf⟩)
  | port sel data beside => cases i <;> first | (simp [Instr.form] at hf; done) | simp

/-- Every way a word can be accepted (30_encoding.md R106), the checks it passed included. -/
theorem decode_ok {c : Config} {w : U32} {beside : Beside} {op : Operation} (h : decode c w beside = .ok op) :
    ((kindField w).toNat = 2 ∧ offField w = 0#8 ∧ (selField w = 0#4 ∨ dataField w = 0#16) ∧
      ∃ i, op = .instr i ∧ portEvent (selField w) (dataField w) beside = .ok i) ∨
    ((kindField w).toNat < 2 ∧ selField w = 0#4 ∧ ((kindField w).toNat = 0 → dataField w = 0#16) ∧ (offField w).getLsbD 0 = false ∧
      beside = .none ∧
      ((∃ r, regAt c.offsets (offField w) = some r ∧
          op = .instr (if (kindField w).toNat = 0 then readInstr r else writeInstr r (dataField w))) ∨
        (∃ k, regAt c.offsets (offField w) = none ∧ metricAt c.moreMetrics (offField w) = some k ∧
          op = if (kindField w).toNat = 0 then .metricRead (offField w) k else .metricWrite (offField w) (dataField w)) ∨
        (regAt c.offsets (offField w) = none ∧ metricAt c.moreMetrics (offField w) = none ∧
          op = if (kindField w).toNat = 0 then .unmappedRead (offField w) else .unmappedWrite (offField w) (dataField w)))) := by
  unfold decode at h
  generalize kindField w = k at *
  generalize selField w = n at *
  generalize offField w = off at *
  generalize dataField w = d at *
  by_cases h1 : k.toNat > 2
  · rw [if_pos h1] at h; cases h
  rw [if_neg h1] at h
  by_cases h2 : k.toNat = 2
  · rw [if_pos h2] at h
    by_cases h3 : off ≠ 0#8
    · rw [if_pos h3] at h; cases h
    rw [if_neg h3] at h
    by_cases h4 : d ≠ 0#16 ∧ n ≠ 0#4
    · rw [if_pos h4] at h; cases h
    rw [if_neg h4] at h
    refine .inl ⟨h2, not_not.mp h3, ?_, ?_⟩
    · by_cases hn : n = 0#4
      · exact .inl hn
      · exact .inr (not_not.mp fun hd => h4 ⟨hd, hn⟩)
    · cases hp : portEvent n d beside with
      | ok i => rw [hp] at h; exact ⟨i, (Except.ok.inj h).symm, rfl⟩
      | error e => rw [hp] at h; cases h
  rw [if_neg h2] at h
  by_cases h3 : n ≠ 0#4
  · rw [if_pos h3] at h; cases h
  rw [if_neg h3] at h
  by_cases h4 : k.toNat = 0 ∧ d ≠ 0#16
  · rw [if_pos h4] at h; cases h
  rw [if_neg h4] at h
  by_cases h5 : off.getLsbD 0 = true
  · rw [if_pos h5] at h; cases h
  rw [if_neg h5] at h
  by_cases h6 : beside ≠ .none
  · rw [if_pos h6] at h; cases h
  rw [if_neg h6] at h
  refine .inr ⟨by omega, not_not.mp h3, fun hk => not_not.mp fun hd => h4 ⟨hk, hd⟩, by simpa using h5, not_not.mp h6, ?_⟩
  cases hr : regAt c.offsets off with
  | some r => rw [hr] at h; exact .inl ⟨r, rfl, (Except.ok.inj h).symm⟩
  | none =>
    rw [hr] at h
    cases hm : metricAt c.moreMetrics off with
    | some x => rw [hm] at h; exact .inr (.inl ⟨x, rfl, rfl, (Except.ok.inj h).symm⟩)
    | none => rw [hm] at h; exact .inr (.inr ⟨rfl, rfl, (Except.ok.inj h).symm⟩)

/-- The port events by their selectors (30_encoding.md R93). -/
theorem portEvent_form {sel : BitVec 4} {data : U16} {beside : Beside} {i : Instr} (hd : sel = 0#4 ∨ data = 0#16)
    (h : portEvent sel data beside = .ok i) : i.form = .port sel data beside := by
  have key : ∀ n : Fin 16, sel = BitVec.ofFin n → i.form = .port sel data beside := by
    intro n hn
    subst hn
    fin_cases n
    all_goals
      cases beside <;>
        first
          | (cases h; done)
          | (cases h; rfl)
          | (obtain rfl := hd.resolve_left (by decide); cases h; rfl)
  exact key sel.toFin rfl

end Sys2Proof
end

