-- ==== Sys2Proof/Laws/PerInstr.lean ====
section
/-! SUPPORT. PerInstr.lean: the family TableWord: under the default register map an operation is well formed and its word is of the
row that spec/opcode_table.json gives it: word and mask is match. The rows are transcribed here from the table, apart from the encoder. -/

namespace Sys2Proof.Laws.TableWord

/-- `match` and `mask` of an operation's row in spec/opcode_table.json. -/
def row : Instr → U32 × U32
  | .rd16Status => (0x00000000#32, 0xFFFF0000#32)
  | .wr16Status _ => (0x10000000#32, 0xFFFF0000#32)
  | .rd16Control => (0x00020000#32, 0xFFFF0000#32)
  | .wr16Control _ => (0x10020000#32, 0xFFFF0000#32)
  | .rd16Clear => (0x00040000#32, 0xFFFF0000#32)
  | .wr16Clear _ => (0x10040000#32, 0xFFFF0000#32)
  | .rd16PerfSelect => (0x00060000#32, 0xFFFF0000#32)
  | .wr16PerfSelect _ => (0x10060000#32, 0xFFFF0000#32)
  | .rd16Token => (0x000E0000#32, 0xFFFF0000#32)
  | .wr16Token _ => (0x100E0000#32, 0xFFFF0000#32)
  | .rd16BboxLeft => (0x00100000#32, 0xFFFF0000#32)
  | .wr16BboxLeft _ => (0x10100000#32, 0xFFFF0000#32)
  | .rd16BboxRight => (0x00120000#32, 0xFFFF0000#32)
  | .wr16BboxRight _ => (0x10120000#32, 0xFFFF0000#32)
  | .rd16BboxTop => (0x00140000#32, 0xFFFF0000#32)
  | .wr16BboxTop _ => (0x10140000#32, 0xFFFF0000#32)
  | .rd16BboxBottom => (0x00160000#32, 0xFFFF0000#32)
  | .wr16BboxBottom _ => (0x10160000#32, 0xFFFF0000#32)
  | .rd16FifoBaseLo => (0x00200000#32, 0xFFFF0000#32)
  | .wr16FifoBaseLo _ => (0x10200000#32, 0xFFFF0000#32)
  | .rd16FifoBaseHi => (0x00220000#32, 0xFFFF0000#32)
  | .wr16FifoBaseHi _ => (0x10220000#32, 0xFFFF0000#32)
  | .rd16FifoEndLo => (0x00240000#32, 0xFFFF0000#32)
  | .wr16FifoEndLo _ => (0x10240000#32, 0xFFFF0000#32)
  | .rd16FifoEndHi => (0x00260000#32, 0xFFFF0000#32)
  | .wr16FifoEndHi _ => (0x10260000#32, 0xFFFF0000#32)
  | .rd16FifoHiWatermarkLo => (0x00280000#32, 0xFFFF0000#32)
  | .wr16FifoHiWatermarkLo _ => (0x10280000#32, 0xFFFF0000#32)
  | .rd16FifoHiWatermarkHi => (0x002A0000#32, 0xFFFF0000#32)
  | .wr16FifoHiWatermarkHi _ => (0x102A0000#32, 0xFFFF0000#32)
  | .rd16FifoLoWatermarkLo => (0x002C0000#32, 0xFFFF0000#32)
  | .wr16FifoLoWatermarkLo _ => (0x102C0000#32, 0xFFFF0000#32)
  | .rd16FifoLoWatermarkHi => (0x002E0000#32, 0xFFFF0000#32)
  | .wr16FifoLoWatermarkHi _ => (0x102E0000#32, 0xFFFF0000#32)
  | .rd16FifoRwDistanceLo => (0x00300000#32, 0xFFFF0000#32)
  | .wr16FifoRwDistanceLo _ => (0x10300000#32, 0xFFFF0000#32)
  | .rd16FifoRwDistanceHi => (0x00320000#32, 0xFFFF0000#32)
  | .wr16FifoRwDistanceHi _ => (0x10320000#32, 0xFFFF0000#32)
  | .rd16FifoWritePointerLo => (0x00340000#32, 0xFFFF0000#32)
  | .wr16FifoWritePointerLo _ => (0x10340000#32, 0xFFFF0000#32)
  | .rd16FifoWritePointerHi => (0x00360000#32, 0xFFFF0000#32)
  | .wr16FifoWritePointerHi _ => (0x10360000#32, 0xFFFF0000#32)
  | .rd16FifoReadPointerLo => (0x00380000#32, 0xFFFF0000#32)
  | .wr16FifoReadPointerLo _ => (0x10380000#32, 0xFFFF0000#32)
  | .rd16FifoReadPointerHi => (0x003A0000#32, 0xFFFF0000#32)
  | .wr16FifoReadPointerHi _ => (0x103A0000#32, 0xFFFF0000#32)
  | .rd16FifoBpLo => (0x003C0000#32, 0xFFFF0000#32)
  | .wr16FifoBpLo _ => (0x103C0000#32, 0xFFFF0000#32)
  | .rd16FifoBpHi => (0x003E0000#32, 0xFFFF0000#32)
  | .wr16FifoBpHi _ => (0x103E0000#32, 0xFFFF0000#32)
  | .rd16Metric00 => (0x00400000#32, 0xFFFF0000#32)
  | .wr16Metric00 _ => (0x10400000#32, 0xFFFF0000#32)
  | .rd16Metric01 => (0x00420000#32, 0xFFFF0000#32)
  | .wr16Metric01 _ => (0x10420000#32, 0xFFFF0000#32)
  | .rd16Metric02 => (0x00440000#32, 0xFFFF0000#32)
  | .wr16Metric02 _ => (0x10440000#32, 0xFFFF0000#32)
  | .rd16Metric03 => (0x00460000#32, 0xFFFF0000#32)
  | .wr16Metric03 _ => (0x10460000#32, 0xFFFF0000#32)
  | .rd16Metric04 => (0x00480000#32, 0xFFFF0000#32)
  | .wr16Metric04 _ => (0x10480000#32, 0xFFFF0000#32)
  | .rd16Metric05 => (0x004A0000#32, 0xFFFF0000#32)
  | .wr16Metric05 _ => (0x104A0000#32, 0xFFFF0000#32)
  | .rd16Metric06 => (0x004C0000#32, 0xFFFF0000#32)
  | .wr16Metric06 _ => (0x104C0000#32, 0xFFFF0000#32)
  | .rd16Metric07 => (0x004E0000#32, 0xFFFF0000#32)
  | .wr16Metric07 _ => (0x104E0000#32, 0xFFFF0000#32)
  | .rd16Metric08 => (0x00500000#32, 0xFFFF0000#32)
  | .wr16Metric08 _ => (0x10500000#32, 0xFFFF0000#32)
  | .rd16Metric09 => (0x00520000#32, 0xFFFF0000#32)
  | .wr16Metric09 _ => (0x10520000#32, 0xFFFF0000#32)
  | .rd16Metric10 => (0x00540000#32, 0xFFFF0000#32)
  | .wr16Metric10 _ => (0x10540000#32, 0xFFFF0000#32)
  | .rd16Metric11 => (0x00560000#32, 0xFFFF0000#32)
  | .wr16Metric11 _ => (0x10560000#32, 0xFFFF0000#32)
  | .rd16Metric12 => (0x00580000#32, 0xFFFF0000#32)
  | .wr16Metric12 _ => (0x10580000#32, 0xFFFF0000#32)
  | .rd16Metric13 => (0x005A0000#32, 0xFFFF0000#32)
  | .wr16Metric13 _ => (0x105A0000#32, 0xFFFF0000#32)
  | .rd16Metric14 => (0x00600000#32, 0xFFFF0000#32)
  | .wr16Metric14 _ => (0x10600000#32, 0xFFFF0000#32)
  | .rd16Metric15 => (0x00620000#32, 0xFFFF0000#32)
  | .wr16Metric15 _ => (0x10620000#32, 0xFFFF0000#32)
  | .rd16Metric16 => (0x00640000#32, 0xFFFF0000#32)
  | .wr16Metric16 _ => (0x10640000#32, 0xFFFF0000#32)
  | .burst _ => (0x20000000#32, 0xFFFF0000#32)
  | .evalGpu => (0x21000000#32, 0xFFFFFFFF#32)
  | .deliver => (0x22000000#32, 0xFFFFFFFF#32)
  | .consRpSet _ => (0x23000000#32, 0xFFFFFFFF#32)
  | .consDistSub _ => (0x24000000#32, 0xFFFFFFFF#32)
  | .consSafePublish _ => (0x25000000#32, 0xFFFFFFFF#32)
  | .consBboxSet _ _ _ _ => (0x26000000#32, 0xFFFFFFFF#32)
  | .snapshotSave => (0x27000000#32, 0xFFFFFFFF#32)
  | .snapshotRestore _ => (0x28000000#32, 0xFFFFFFFF#32)
  | .reset => (0x29000000#32, 0xFFFFFFFF#32)

/-- The word of the operation belongs to its row, and the operation is well formed, under the default configuration. -/
def Statement (i : Instr) : Prop :=
  i.wellFormed Config.default = true ∧ (encode Config.default i).1 &&& (row i).2 = (row i).1

/-- The upper half of a word under the mask of a register write or a burst. -/
theorem upper_half (kind sel : BitVec 4) (off : U8) (data : U16) :
    mkWord kind sel off data &&& 0xFFFF0000#32 = mkWord kind sel off 0#16 := by
  apply BitVec.eq_of_getLsbD_eq
  intro i hi
  have hm : (0xFFFF0000#32).getLsbD i = decide (16 ≤ i) := by
    have : ∀ j : Fin 32, (0xFFFF0000#32).getLsbD j.val = decide (16 ≤ j.val) := by decide
    exact this ⟨i, hi⟩
  rw [BitVec.getLsbD_and, hm, getLsbD_mkWord, getLsbD_mkWord]
  by_cases h : i < 16
  · simp [h, show ¬ 16 ≤ i by omega]
  · simp [h, show 16 ≤ i by omega]

theorem rd16Status : Statement .rd16Status := ⟨rfl, rfl⟩
theorem wr16Status (v : U16) : Statement (.wr16Status v) := ⟨rfl, (upper_half _ _ _ v).trans rfl⟩
theorem rd16Control : Statement .rd16Control := ⟨rfl, rfl⟩
theorem wr16Control (v : U16) : Statement (.wr16Control v) := ⟨rfl, (upper_half _ _ _ v).trans rfl⟩
theorem rd16Clear : Statement .rd16Clear := ⟨rfl, rfl⟩
theorem wr16Clear (v : U16) : Statement (.wr16Clear v) := ⟨rfl, (upper_half _ _ _ v).trans rfl⟩
theorem rd16PerfSelect : Statement .rd16PerfSelect := ⟨rfl, rfl⟩
theorem wr16PerfSelect (v : U16) : Statement (.wr16PerfSelect v) := ⟨rfl, (upper_half _ _ _ v).trans rfl⟩
theorem rd16Token : Statement .rd16Token := ⟨rfl, rfl⟩
theorem wr16Token (v : U16) : Statement (.wr16Token v) := ⟨rfl, (upper_half _ _ _ v).trans rfl⟩
theorem rd16BboxLeft : Statement .rd16BboxLeft := ⟨rfl, rfl⟩
theorem wr16BboxLeft (v : U16) : Statement (.wr16BboxLeft v) := ⟨rfl, (upper_half _ _ _ v).trans rfl⟩
theorem rd16BboxRight : Statement .rd16BboxRight := ⟨rfl, rfl⟩
theorem wr16BboxRight (v : U16) : Statement (.wr16BboxRight v) := ⟨rfl, (upper_half _ _ _ v).trans rfl⟩
theorem rd16BboxTop : Statement .rd16BboxTop := ⟨rfl, rfl⟩
theorem wr16BboxTop (v : U16) : Statement (.wr16BboxTop v) := ⟨rfl, (upper_half _ _ _ v).trans rfl⟩
theorem rd16BboxBottom : Statement .rd16BboxBottom := ⟨rfl, rfl⟩
theorem wr16BboxBottom (v : U16) : Statement (.wr16BboxBottom v) := ⟨rfl, (upper_half _ _ _ v).trans rfl⟩
theorem rd16FifoBaseLo : Statement .rd16FifoBaseLo := ⟨rfl, rfl⟩
theorem wr16FifoBaseLo (v : U16) : Statement (.wr16FifoBaseLo v) := ⟨rfl, (upper_half _ _ _ v).trans rfl⟩
theorem rd16FifoBaseHi : Statement .rd16FifoBaseHi := ⟨rfl, rfl⟩
theorem wr16FifoBaseHi (v : U16) : Statement (.wr16FifoBaseHi v) := ⟨rfl, (upper_half _ _ _ v).trans rfl⟩
theorem rd16FifoEndLo : Statement .rd16FifoEndLo := ⟨rfl, rfl⟩
theorem wr16FifoEndLo (v : U16) : Statement (.wr16FifoEndLo v) := ⟨rfl, (upper_half _ _ _ v).trans rfl⟩
theorem rd16FifoEndHi : Statement .rd16FifoEndHi := ⟨rfl, rfl⟩
theorem wr16FifoEndHi (v : U16) : Statement (.wr16FifoEndHi v) := ⟨rfl, (upper_half _ _ _ v).trans rfl⟩
theorem rd16FifoHiWatermarkLo : Statement .rd16FifoHiWatermarkLo := ⟨rfl, rfl⟩
theorem wr16FifoHiWatermarkLo (v : U16) : Statement (.wr16FifoHiWatermarkLo v) := ⟨rfl, (upper_half _ _ _ v).trans rfl⟩
theorem rd16FifoHiWatermarkHi : Statement .rd16FifoHiWatermarkHi := ⟨rfl, rfl⟩
theorem wr16FifoHiWatermarkHi (v : U16) : Statement (.wr16FifoHiWatermarkHi v) := ⟨rfl, (upper_half _ _ _ v).trans rfl⟩
theorem rd16FifoLoWatermarkLo : Statement .rd16FifoLoWatermarkLo := ⟨rfl, rfl⟩
theorem wr16FifoLoWatermarkLo (v : U16) : Statement (.wr16FifoLoWatermarkLo v) := ⟨rfl, (upper_half _ _ _ v).trans rfl⟩
theorem rd16FifoLoWatermarkHi : Statement .rd16FifoLoWatermarkHi := ⟨rfl, rfl⟩
theorem wr16FifoLoWatermarkHi (v : U16) : Statement (.wr16FifoLoWatermarkHi v) := ⟨rfl, (upper_half _ _ _ v).trans rfl⟩
theorem rd16FifoRwDistanceLo : Statement .rd16FifoRwDistanceLo := ⟨rfl, rfl⟩
theorem wr16FifoRwDistanceLo (v : U16) : Statement (.wr16FifoRwDistanceLo v) := ⟨rfl, (upper_half _ _ _ v).trans rfl⟩
theorem rd16FifoRwDistanceHi : Statement .rd16FifoRwDistanceHi := ⟨rfl, rfl⟩
theorem wr16FifoRwDistanceHi (v : U16) : Statement (.wr16FifoRwDistanceHi v) := ⟨rfl, (upper_half _ _ _ v).trans rfl⟩
theorem rd16FifoWritePointerLo : Statement .rd16FifoWritePointerLo := ⟨rfl, rfl⟩
theorem wr16FifoWritePointerLo (v : U16) : Statement (.wr16FifoWritePointerLo v) := ⟨rfl, (upper_half _ _ _ v).trans rfl⟩
theorem rd16FifoWritePointerHi : Statement .rd16FifoWritePointerHi := ⟨rfl, rfl⟩
theorem wr16FifoWritePointerHi (v : U16) : Statement (.wr16FifoWritePointerHi v) := ⟨rfl, (upper_half _ _ _ v).trans rfl⟩
theorem rd16FifoReadPointerLo : Statement .rd16FifoReadPointerLo := ⟨rfl, rfl⟩
theorem wr16FifoReadPointerLo (v : U16) : Statement (.wr16FifoReadPointerLo v) := ⟨rfl, (upper_half _ _ _ v).trans rfl⟩
theorem rd16FifoReadPointerHi : Statement .rd16FifoReadPointerHi := ⟨rfl, rfl⟩
theorem wr16FifoReadPointerHi (v : U16) : Statement (.wr16FifoReadPointerHi v) := ⟨rfl, (upper_half _ _ _ v).trans rfl⟩
theorem rd16FifoBpLo : Statement .rd16FifoBpLo := ⟨rfl, rfl⟩
theorem wr16FifoBpLo (v : U16) : Statement (.wr16FifoBpLo v) := ⟨rfl, (upper_half _ _ _ v).trans rfl⟩
theorem rd16FifoBpHi : Statement .rd16FifoBpHi := ⟨rfl, rfl⟩
theorem wr16FifoBpHi (v : U16) : Statement (.wr16FifoBpHi v) := ⟨rfl, (upper_half _ _ _ v).trans rfl⟩
theorem rd16Metric00 : Statement .rd16Metric00 := ⟨rfl, rfl⟩
theorem wr16Metric00 (v : U16) : Statement (.wr16Metric00 v) := ⟨rfl, (upper_half _ _ _ v).trans rfl⟩
theorem rd16Metric01 : Statement .rd16Metric01 := ⟨rfl, rfl⟩
theorem wr16Metric01 (v : U16) : Statement (.wr16Metric01 v) := ⟨rfl, (upper_half _ _ _ v).trans rfl⟩
theorem rd16Metric02 : Statement .rd16Metric02 := ⟨rfl, rfl⟩
theorem wr16Metric02 (v : U16) : Statement (.wr16Metric02 v) := ⟨rfl, (upper_half _ _ _ v).trans rfl⟩
theorem rd16Metric03 : Statement .rd16Metric03 := ⟨rfl, rfl⟩
theorem wr16Metric03 (v : U16) : Statement (.wr16Metric03 v) := ⟨rfl, (upper_half _ _ _ v).trans rfl⟩
theorem rd16Metric04 : Statement .rd16Metric04 := ⟨rfl, rfl⟩
theorem wr16Metric04 (v : U16) : Statement (.wr16Metric04 v) := ⟨rfl, (upper_half _ _ _ v).trans rfl⟩
theorem rd16Metric05 : Statement .rd16Metric05 := ⟨rfl, rfl⟩
theorem wr16Metric05 (v : U16) : Statement (.wr16Metric05 v) := ⟨rfl, (upper_half _ _ _ v).trans rfl⟩
theorem rd16Metric06 : Statement .rd16Metric06 := ⟨rfl, rfl⟩
theorem wr16Metric06 (v : U16) : Statement (.wr16Metric06 v) := ⟨rfl, (upper_half _ _ _ v).trans rfl⟩
theorem rd16Metric07 : Statement .rd16Metric07 := ⟨rfl, rfl⟩
theorem wr16Metric07 (v : U16) : Statement (.wr16Metric07 v) := ⟨rfl, (upper_half _ _ _ v).trans rfl⟩
theorem rd16Metric08 : Statement .rd16Metric08 := ⟨rfl, rfl⟩
theorem wr16Metric08 (v : U16) : Statement (.wr16Metric08 v) := ⟨rfl, (upper_half _ _ _ v).trans rfl⟩
theorem rd16Metric09 : Statement .rd16Metric09 := ⟨rfl, rfl⟩
theorem wr16Metric09 (v : U16) : Statement (.wr16Metric09 v) := ⟨rfl, (upper_half _ _ _ v).trans rfl⟩
theorem rd16Metric10 : Statement .rd16Metric10 := ⟨rfl, rfl⟩
theorem wr16Metric10 (v : U16) : Statement (.wr16Metric10 v) := ⟨rfl, (upper_half _ _ _ v).trans rfl⟩
theorem rd16Metric11 : Statement .rd16Metric11 := ⟨rfl, rfl⟩
theorem wr16Metric11 (v : U16) : Statement (.wr16Metric11 v) := ⟨rfl, (upper_half _ _ _ v).trans rfl⟩
theorem rd16Metric12 : Statement .rd16Metric12 := ⟨rfl, rfl⟩
theorem wr16Metric12 (v : U16) : Statement (.wr16Metric12 v) := ⟨rfl, (upper_half _ _ _ v).trans rfl⟩
theorem rd16Metric13 : Statement .rd16Metric13 := ⟨rfl, rfl⟩
theorem wr16Metric13 (v : U16) : Statement (.wr16Metric13 v) := ⟨rfl, (upper_half _ _ _ v).trans rfl⟩
theorem rd16Metric14 : Statement .rd16Metric14 := ⟨rfl, rfl⟩
theorem wr16Metric14 (v : U16) : Statement (.wr16Metric14 v) := ⟨rfl, (upper_half _ _ _ v).trans rfl⟩
theorem rd16Metric15 : Statement .rd16Metric15 := ⟨rfl, rfl⟩
theorem wr16Metric15 (v : U16) : Statement (.wr16Metric15 v) := ⟨rfl, (upper_half _ _ _ v).trans rfl⟩
theorem rd16Metric16 : Statement .rd16Metric16 := ⟨rfl, rfl⟩
theorem wr16Metric16 (v : U16) : Statement (.wr16Metric16 v) := ⟨rfl, (upper_half _ _ _ v).trans rfl⟩
theorem burst (size : U16) : Statement (.burst size) := ⟨rfl, (upper_half _ _ _ size).trans rfl⟩
theorem evalGpu : Statement .evalGpu := ⟨rfl, rfl⟩
theorem deliver : Statement .deliver := ⟨rfl, rfl⟩
theorem consRpSet (v : U32) : Statement (.consRpSet v) :=
  ⟨rfl, show mkWord 0x2#4 0x3#4 0#8 0#16 &&& 0xFFFFFFFF#32 = 0x23000000#32 by decide⟩
theorem consDistSub (n : U32) : Statement (.consDistSub n) :=
  ⟨rfl, show mkWord 0x2#4 0x4#4 0#8 0#16 &&& 0xFFFFFFFF#32 = 0x24000000#32 by decide⟩
theorem consSafePublish (v : U32) : Statement (.consSafePublish v) :=
  ⟨rfl, show mkWord 0x2#4 0x5#4 0#8 0#16 &&& 0xFFFFFFFF#32 = 0x25000000#32 by decide⟩
theorem consBboxSet (l r t b : U16) : Statement (.consBboxSet l r t b) :=
  ⟨rfl, show mkWord 0x2#4 0x6#4 0#8 0#16 &&& 0xFFFFFFFF#32 = 0x26000000#32 by decide⟩
theorem snapshotSave : Statement .snapshotSave := ⟨rfl, rfl⟩
theorem snapshotRestore (snap : Snapshot) : Statement (.snapshotRestore snap) :=
  ⟨rfl, show mkWord 0x2#4 0x8#4 0#8 0#16 &&& 0xFFFFFFFF#32 = 0x28000000#32 by decide⟩
theorem reset : Statement .reset := ⟨rfl, rfl⟩

end Sys2Proof.Laws.TableWord
end

