-- ==== Sys2Proof/Laws/Producer.lean ====
section
/-! SUPPORT. Producer.lean: what the steps of a burst can do, said once. -/

namespace Sys2Proof.Machine

/-- The link state after step 3 (42_producer_burst.md R235). -/
theorem burstPublish_cases (s : State) :
    (s.linkEnabled = true ∧ s.readEnabled = true ∧
      burstPublish s = { s with linkBase := s.base, linkEnd := s.endAddr, linkWritePointer := s.writePointer }) ∨
    (¬(s.linkEnabled = true ∧ s.readEnabled = true) ∧ burstPublish s = s) := by
  unfold burstPublish
  split
  · exact .inl ⟨(‹_ ∧ _› : _ ∧ _).1, (‹_ ∧ _› : _ ∧ _).2, rfl⟩
  · exact .inr ⟨‹_›, rfl⟩

/-- Step 4 only emits (42_producer_burst.md R236). -/
theorem burstEarlyCheck_eq (s : State) :
    burstEarlyCheck s = emit (if s.hiWatermark.toNat ≤ s.distance.toNat then [.excCheck] else []) s := by
  unfold burstEarlyCheck
  split
  · rfl
  · simp [emit]

/-- Step 7 ends in one of three ways (42_producer_burst.md R239, R240). -/
theorem burstPostconditions_cases (s : State) :
    (overflowed s = true ∧ burstPostconditions s = raiseFatal .overflow s) ∨
    (overflowed s = false ∧ linkDesynced s = true ∧ burstPostconditions s = raiseFatal .linkDesync s) ∨
    (overflowed s = false ∧ linkDesynced s = false ∧ burstPostconditions s = s) := by
  unfold burstPostconditions
  cases h1 : overflowed s <;> cases h2 : linkDesynced s <;> simp

/-- Step 7 leaves the saved core and the link state. -/
theorem burstPostconditions_keeps (s : State) :
    (burstPostconditions s).toSavedCore = s.toSavedCore ∧ (burstPostconditions s).linkBase = s.linkBase ∧
      (burstPostconditions s).linkEnd = s.linkEnd ∧ (burstPostconditions s).linkWritePointer = s.linkWritePointer ∧
      (burstPostconditions s).eventQueue = s.eventQueue ∧ SameSurroundings s (burstPostconditions s) := by
  rcases burstPostconditions_cases s with ⟨-, h⟩ | ⟨-, -, h⟩ | ⟨-, -, h⟩ <;> rw [h] <;> simp [SameSurroundings]

/-! ### Frames of the steps -/

theorem evaluate_cfg (side : Side) (s : State) : (evaluate side s).cfg = s.cfg := (evaluate_frame side s).2.2.2.2.1.symm

theorem evaluate_interleaved (side : Side) (s : State) : (evaluate side s).interleaved = s.interleaved :=
  (evaluate_frame side s).2.2.2.2.2.2.2.2.2.1.symm

theorem between_interleaved (ops : List ConsumerOp) (s : State) : (between ops s).interleaved = s.interleaved :=
  (between_frame ops s).2.2.2.2.2.2.2.2.2.1.symm

theorem burstFlush_frame (s : State) : ConsumerFrame s (burstFlush s) := by
  unfold burstFlush
  split
  · exact callFlush_frame s
  · exact ConsumerFrame_refl s

theorem burstEarlyCheck_frame (s : State) : ConsumerFrame s (burstEarlyCheck s) := by
  rw [burstEarlyCheck_eq]
  exact emit_frame _ _

theorem burstAdd_frame (size : U32) (s : State) : ConsumerFrame s (burstAdd size s) := by
  simp [ConsumerFrame, SameProgramming, SameLinkState, SameSurroundings]

/-- The state that step 3 starts from differs from the first one in what the consumer side and the evaluator write. -/
theorem burst_start_frame (s : State) :
    ConsumerFrame s (between s.interleaved.after2 (between s.interleaved.after1 (evaluate .cpu s))) :=
  ConsumerFrame_trans (evaluate_frame _ _) (ConsumerFrame_trans (between_frame _ _) (between_frame _ _))

/-- The link-mode test of step 2 reads the flag as it was before the burst (10_state.md R50). -/
theorem burst_unlinked {s : State} (h : s.linkEnabled = false) (size : U32) :
    burst size s = burstUnlinked (between s.interleaved.after1 (evaluate .cpu s)) := by
  have hl : (between s.interleaved.after1 (evaluate .cpu s)).linkEnabled = false :=
    (ConsumerFrame_trans (evaluate_frame .cpu s) (between_frame s.interleaved.after1 _)).1.2.2.2.2.2.1.symm.trans h
  simp [burst, hl]

theorem burst_linked {s : State} (h : s.linkEnabled = true) (size : U32) :
    burst size s = burstLinked size (between s.interleaved.after2 (between s.interleaved.after1 (evaluate .cpu s))) := by
  have hl : (between s.interleaved.after1 (evaluate .cpu s)).linkEnabled = true :=
    (ConsumerFrame_trans (evaluate_frame .cpu s) (between_frame s.interleaved.after1 _)).1.2.2.2.2.2.1.symm.trans h
  simp only [burst, hl, ↓reduceIte, between_interleaved, evaluate_interleaved]

/-- After step 3 nothing but `distance`, what the consumer side and the evaluator write, and the trace moves before step 7. -/
theorem burstLinked_frame (size : U32) (s : State) :
    ∃ b, ConsumerFrame (burstPublish (burstAdvance size s)) b ∧ burstLinked size s = burstPostconditions b :=
  ⟨_, ConsumerFrame_trans (between_frame s.interleaved.after3 _) <| ConsumerFrame_trans (burstEarlyCheck_frame _) <|
    ConsumerFrame_trans (between_frame s.interleaved.after4 _) <| ConsumerFrame_trans (burstAdd_frame size _) <|
    ConsumerFrame_trans (between_frame s.interleaved.after5 _) <| ConsumerFrame_trans (emit_frame [.runGpu] _)
      (between_frame s.interleaved.after6 _), rfl⟩

/-! ### A burst with nothing between its steps -/

theorem burstPublish_cfg (s : State) : (burstPublish s).cfg = s.cfg := by
  rcases burstPublish_cases s with ⟨-, -, h⟩ | ⟨-, h⟩ <;> rw [h]

/-- A linked burst with nothing between its steps (42_producer_burst.md R231, R234 to R240). -/
theorem burst_linked_quiet {s : State} (hb : NothingBetween s) (size : U32) (hl : s.linkEnabled = true) :
    burst size s =
      burstPostconditions (emit [.runGpu] (burstAdd size (burstEarlyCheck (burstPublish (burstAdvance size (evaluate .cpu s)))))) := by
  have g := @NothingBetween_gaps s hb
  have c3 : (burstPublish (burstAdvance size (evaluate .cpu s))).cfg = s.cfg := (burstPublish_cfg _).trans (evaluate_cfg _ _)
  have c4 : (burstEarlyCheck (burstPublish (burstAdvance size (evaluate .cpu s)))).cfg = s.cfg :=
    (burstEarlyCheck_frame _).2.2.2.2.1.symm.trans c3
  rw [burst_linked hl, (g (evaluate_cfg .cpu s)).1, (g (evaluate_cfg .cpu s)).2.2.1]
  unfold burstLinked
  rw [evaluate_interleaved]
  dsimp only
  rw [(g c3).2.2.2.1, (g c4).2.2.2.2.1,
    (g (t := burstAdd size (burstEarlyCheck (burstPublish (burstAdvance size (evaluate .cpu s))))) c4).2.2.2.2.2.1,
    (g (t := emit [.runGpu] (burstAdd size (burstEarlyCheck (burstPublish (burstAdvance size (evaluate .cpu s)))))) c4).2.2.2.2.2.2]

/-- An unlinked burst with nothing between its steps (42_producer_burst.md R232). -/
theorem burst_unlinked_quiet {s : State} (hb : NothingBetween s) (size : U32) (hl : s.linkEnabled = false) :
    burst size s = emit [.runGpu] (burstFlush (evaluate .cpu s)) := by
  have g := @NothingBetween_gaps s hb
  rw [burst_unlinked hl, (g (evaluate_cfg .cpu s)).1, burstUnlinked, evaluate_interleaved,
    (g ((burstFlush_frame (evaluate .cpu s)).2.2.2.2.1.symm.trans (evaluate_cfg _ _))).2.1]

/-! ### What every step keeps -/

/-- What every step of a burst keeps, and every consumer-side operation that may fall inside it, the burst keeps. -/
theorem burst_keeps (P : State → Prop) (size : U32) (s : State) (hop : ∀ op ∈ s.interleaved.ops, ∀ x, P x → P (consumerStep op x))
    (hev : ∀ x, P x → P (evaluate .cpu x)) (hemit : ∀ e x, lastLevel e = none → P x → P (emit e x))
    (hadv : ∀ x, P x → P (burstAdvance size x)) (hpub : ∀ x, P x → P (burstPublish x)) (hadd : ∀ x, P x → P (burstAdd size x))
    (hfatal : ∀ r x, P x → P (raiseFatal r x)) (h : P s) : P (burst size s) := by
  have hgap : ∀ ops, (∀ op ∈ ops, op ∈ s.interleaved.ops) → ∀ x, P x → P (between ops x) :=
    fun ops hs x hx => between_keeps P ops (fun op ho y hy => hop op (hs op ho) y hy) x hx
  have hflush : ∀ x, x.interleaved = s.interleaved → P x → P (burstFlush x) := by
    intro x hi hx
    unfold burstFlush
    split
    · exact callFlush_keeps P x (fun op ho y hy => hop op (by rw [hi] at ho; simp [Interleaving.ops, ho]) y hy) (hemit _ x rfl hx)
    · exact hx
  have hpost : ∀ x, P x → P (burstPostconditions x) := by
    intro x hx
    rcases burstPostconditions_cases x with ⟨-, e⟩ | ⟨-, -, e⟩ | ⟨-, -, e⟩ <;> rw [e]
    · exact hfatal _ _ hx
    · exact hfatal _ _ hx
    · exact hx
  have hcheck : ∀ x, P x → P (burstEarlyCheck x) := by
    intro x hx
    rw [burstEarlyCheck_eq]
    exact hemit _ _ (by split <;> rfl) hx
  have h1 : P (between s.interleaved.after1 (evaluate .cpu s)) := hgap _ (fun op ho => by simp [Interleaving.ops, ho]) _ (hev _ h)
  have i1 : (between s.interleaved.after1 (evaluate .cpu s)).interleaved = s.interleaved :=
    (between_interleaved _ _).trans (evaluate_interleaved _ _)
  cases hl : s.linkEnabled
  · rw [burst_unlinked hl, burstUnlinked, i1]
    exact hemit _ _ rfl (hgap _ (fun op ho => by simp [Interleaving.ops, ho]) _ (hflush _ i1 h1))
  · rw [burst_linked hl]
    have h2 := hgap s.interleaved.after2 (fun op ho => by simp [Interleaving.ops, ho]) _ h1
    have i2 := (between_interleaved s.interleaved.after2 (between s.interleaved.after1 (evaluate .cpu s))).trans i1
    generalize between s.interleaved.after2 _ = x at h2 i2
    unfold burstLinked
    rw [i2]
    refine hpost _ (hgap _ (fun op ho => by simp [Interleaving.ops, ho]) _ (hemit _ _ rfl ?_))
    refine hgap _ (fun op ho => by simp [Interleaving.ops, ho]) _ (hadd _ ?_)
    refine hgap _ (fun op ho => by simp [Interleaving.ops, ho]) _ (hcheck _ ?_)
    exact hgap _ (fun op ho => by simp [Interleaving.ops, ho]) _ (hpub _ (hadv _ h2))

/-- What every step of a write of CONTROL keeps, and every consumer-side operation that may fall inside it, the write keeps. -/
theorem controlWrite_keeps (P : State → Prop) (v : U16) (s : State) (hop : ∀ op ∈ s.interleaved.ops, ∀ x, P x → P (consumerStep op x))
    (hflags : ∀ x, P x → P (controlFlags v x)) (hflush : ∀ x, P x → P (emit [.flushGpu] x)) (hread : ∀ x, P x → P (controlReadEnable v x))
    (h : P s) : P (controlWrite v s) := by
  have hgap : ∀ ops, (∀ op ∈ ops, op ∈ s.interleaved.ops) → ∀ x, P x → P (between ops x) :=
    fun ops hs x hx => between_keeps P ops (fun op ho y hy => hop op (hs op ho) y hy) x hx
  unfold controlWrite
  split
  · have i1 : (between s.interleaved.after1 (controlFlags v s)).interleaved = s.interleaved := between_interleaved _ _
    have h1 := hgap s.interleaved.after1 (fun op ho => by simp [Interleaving.ops, ho]) _ (hflags s h)
    dsimp only
    refine hread _ (hgap _ (fun op ho => by simp [Interleaving.ops, ho]) _ ?_)
    exact callFlush_keeps P _ (fun op ho y hy => hop op (by rw [i1] at ho; simp [Interleaving.ops, ho]) y hy) (hflush _ h1)
  · exact hread _ (hflags _ h)

/-- A write of CONTROL with no consumer-side operation inside it: the six flags, and `FlushGpu` on a falling edge of read-enable
(41_mmio_writes.md R181). -/
theorem controlWrite_quiet {s : State} (h : NothingInside s) (v : U16) :
    ∃ e, controlWrite v s = emit e (controlReadEnable v (controlFlags v s)) ∧
      ((e = [] ∧ controlFlushes v s = false) ∨ (e = [.flushGpu] ∧ controlFlushes v s = true)) := by
  cases hf : controlFlushes v s
  · exact ⟨[], by rw [controlWrite, if_neg (by simp [hf]), emit, List.append_nil], .inl ⟨rfl, rfl⟩⟩
  · refine ⟨[.flushGpu], ?_, .inr ⟨rfl, rfl⟩⟩
    have g := @NothingBetween_gaps s h.1
    have e1 := (g (t := controlFlags v s) rfl).1
    have e2 := (g (t := callFlush (controlFlags v s)) (callFlush_frame (controlFlags v s)).2.2.2.2.1.symm).2.2.1
    rw [controlWrite, if_pos hf]
    dsimp only
    rw [e1, e2, callFlush, show (controlFlags v s).interleaved = s.interleaved from rfl, h.2]
    rfl

/-- The last level told in two lists of events one after the other. -/
theorem lastLevel_append (a b : List Event) : lastLevel (a ++ b) = (lastLevel b).or (lastLevel a) := by
  induction a with
  | nil => simp [lastLevel]
  | cons e rest ih => cases e <;> simp [lastLevel, ih]

end Sys2Proof.Machine
end

