-- ==== Sys2Proof/Laws/Step.lean ====
section
/-! SUPPORT. Step.lean: everything a step can do, said once. -/

namespace Sys2Proof.Machine

/-- A step that answers a next state (10_state.md R47; log 1): nothing was issued and nothing happened, or the operation issued first was
performed: an instruction, or an access that has no row of the table. -/
theorem step_cases {s t : State} (h : step s = .next t) :
    (s.issued = [] ∧ t = s) ∨
      ∃ op rest, s.issued = op :: rest ∧
        ((∃ i, decode s.cfg op.word op.beside = .ok (.instr i) ∧ exec i (acceptIssued op rest s) = .next t) ∨
          (∃ k, execRd16FurtherMetric k (acceptIssued op rest s) = .next t) ∨
          (∃ v, execWr16FurtherMetric v (acceptIssued op rest s) = .next t) ∨
          (∃ off, execRd16Unmapped off (acceptIssued op rest s) = .next t) ∨
          (∃ off v, execWr16Unmapped off v (acceptIssued op rest s) = .next t)) := by
  unfold step at h
  split at h
  · cases h
    exact .inl ⟨‹_›, rfl⟩
  · rename_i op rest hi
    refine .inr ⟨op, rest, hi, ?_⟩
    unfold performIssued at h
    split at h
    · rename_i o ho
      cases o with
      | instr i => exact .inl ⟨i, ho, h⟩
      | metricRead off k => exact .inr (.inl ⟨k, h⟩)
      | metricWrite off v => exact .inr (.inr (.inl ⟨v, h⟩))
      | unmappedRead off => exact .inr (.inr (.inr (.inl ⟨off, h⟩)))
      | unmappedWrite off v => exact .inr (.inr (.inr (.inr ⟨off, v, h⟩)))
    · cases h

/-- The operations of a run one after another. -/
theorem runInstrs_cons {i : Instr} {s t : State} (h : exec i s = .next t) (rest : List Instr) :
    runInstrs (i :: rest) s = runInstrs rest t := by
  simp only [runInstrs, h]

/-- `RD32` that has a result: both reads and the operations between them completed, and the result joins what the reads returned
(30_encoding.md R102). -/
theorem rd32Value_some {f : SplitField} {middle : List Instr} {s : State} {x : U32} (h : rd32Value f middle s = some x) :
    ∃ t u v l r, exec (readInstr (loReg f)) s = .next t ∧ runInstrs middle t = .next u ∧ exec (readInstr (hiReg f)) u = .next v ∧
      t.readData = some l ∧ v.readData = some r ∧ x = join r l := by
  unfold rd32Value at h
  split at h <;> try cases h
  rename_i t ht
  split at h <;> try cases h
  rename_i u hu
  split at h <;> try cases h
  rename_i v hv
  unfold rd32Result at h
  split at h <;> try cases h
  rename_i l r hl hr
  exact ⟨t, u, v, l, r, ht, hu, hv, hl, hr, rfl⟩

/-- A delivery that answers a next state had a head to deliver (44_interrupt_evaluator.md R273). -/
theorem deliverHead_next {s t : State} (h : deliverHead s = .next t) :
    ∃ level rest, s.eventQueue = level :: rest ∧ t = applyTransition level { s with eventQueue := rest } := by
  unfold deliverHead at h
  split at h
  · cases h
  · rename_i level rest hq
    cases h
    exact ⟨level, rest, hq, rfl⟩

/-- What no evaluation changes beside what no consumer-side operation does: the consumer's own fields (44_interrupt_evaluator.md R276). -/
theorem evaluate_keeps_consumer_fields (side : Side) (s : State) :
    (evaluate side s).readPointer = s.readPointer ∧ (evaluate side s).safeReadPointer = s.safeReadPointer ∧
      (evaluate side s).distance = s.distance ∧ SameBox s (evaluate side s) := by
  rcases evaluate_cases side s with ⟨e, -⟩ | ⟨e, -⟩ | ⟨e, -⟩ <;> rw [e] <;> exact ⟨rfl, rfl, rfl, rfl, rfl, rfl, rfl⟩

end Sys2Proof.Machine
end

