-- ==== Sys2Proof/Tests/Slice0.lean ====
section
/-! SUPPORT. Slice0.lean: small checks whose expected results come from spec/95_test_vectors.md (named in each comment) or from the encoding
tables, the checks of WellFormed refusing, and a witness for the hypotheses of each statement. -/

namespace Sys2Proof.Tests

open Sys2Proof Sys2Proof.Machine

/-! ## Small states -/

/-- The default parameters, with values for the three the spec leaves open. -/
def cfg : Config := { Config.default with flushOnUnlinkedBurst := true, irqCause := 7, mmioBase := 0xCC000000#32 }

/-- The same in dual-thread mode. -/
def dualCfg : Config := { cfg with dualThread := true }

/-- The same with an eighteenth pair in `METRICS` (30_encoding.md R99), at an offset that no row of the table has. -/
def metricCfg : Config := { cfg with moreMetrics := [(0x5C#8, 7#16)] }

/-- The state after reset. -/
def s0 : State := State.resetOf cfg

/-- The same in dual-thread mode. -/
def d0 : State := State.resetOf dualCfg

/-- The three-slot ring of S1 in link mode with read-enable, two slots filled, its link state published. -/
def ring : State :=
  { s0 with
    base := 0x1000, endAddr := 0x1060, writePointer := 0x1040, readPointer := 0x1000, distance := 0x40, hiWatermark := 0x40,
    linkEnabled := true, readEnabled := true, linkBase := 0x1000, linkEnd := 0x1060, linkWritePointer := 0x1040 }

/-- The same ring, empty. -/
def emptyRing : State := { ring with writePointer := 0x1000, distance := 0, linkWritePointer := 0x1000 }

/-- S3 at its step 2: everything the breakpoint interrupt needs. -/
def atBreakpoint : State :=
  { s0 with base := 0x1000, endAddr := 0x2000, breakpoint := 0x1800, readPointer := 0x1800, readEnabled := true, breakpointEnabled := true,
            breakpointInterruptEnabled := true }

/-- The same in dual-thread mode. -/
def atBreakpointDual : State := { atBreakpoint with cfg := dualCfg }

/-- V-EVAL 10, after it: a change in flight. -/
def inFlight : State := { atBreakpointDual with breakpointHit := true, interruptChangePending := true, eventQueue := [true] }

/-- All six enables set. -/
def enabled : State :=
  { s0 with linkEnabled := true, readEnabled := true, breakpointEnabled := true, breakpointInterruptEnabled := true,
            hiWatermarkInterruptEnabled := true, loWatermarkInterruptEnabled := true }

/-- A fatal condition recorded. -/
def halted : State := { s0 with fault := some .overflow }

/-- S4: the watermark scenario, as restored. -/
def watermarks : State :=
  { s0 with hiWatermark := 100, loWatermark := 50, distance := 150, readEnabled := true, hiWatermarkInterruptEnabled := true,
            loWatermarkInterruptEnabled := true }

/-- A field of the next state. -/
def after {α : Type} (r : Result) (f : State → α) : Option α :=
  match r with
  | .next t => some (f t)
  | .fault _ => none
  | .refused _ => none

/-- The value a read returns. -/
def reads (i : Instr) (s : State) : Option U16 := (after (exec i s) State.readData).join

/-! ## WellFormed refuses -/

theorem test_wellFormed_default : Config.default.wellFormed = true := by decide
theorem test_wellFormed_odd_offset : Config.offsetsEven { cfg with offsets := [(.status, 0x01#8)] } = false := by decide
theorem test_wellFormed_shared_offset : Config.offsetsDistinct { cfg with offsets := [(.status, 0#8), (.control, 0#8)] } = false := by decide
theorem test_wellFormed_register_twice : Config.registersDistinct { cfg with offsets := [(.status, 0#8), (.status, 2#8)] } = false := by decide
theorem test_wellFormed_status_bits :
    Config.statusBitsDistinct { cfg with statusBits := { defaultStatusBits with underflow := 0 } } = false := by decide
theorem test_wellFormed_control_bits :
    Config.controlBitsDistinct { cfg with controlBits := { defaultControlBits with bpInt := 4 } } = false := by decide
theorem test_wellFormed_config_refused : Config.wellFormed { cfg with offsets := [(.status, 0x01#8)] } = false := by decide
theorem test_wellFormed_further_metric : metricCfg.wellFormed = true := by decide
theorem test_wellFormed_odd_metric_offset : Config.offsetsEven { cfg with moreMetrics := [(0x5D#8, 7#16)] } = false := by decide
theorem test_wellFormed_shared_metric_offset : Config.offsetsDistinct { cfg with moreMetrics := [(0x0E#8, 7#16)] } = false := by decide
theorem test_wellFormed_unmapped_register : Instr.wellFormed { cfg with offsets := [(.status, 0#8)] } (.wr16Control 0#16) = false := by decide

/-! ## Decoding (30_encoding.md R90 to R94; V-DEC)

Each word is written from `KIND` (31:28), `SEL` (27:24), `OFF` (23:16), `DATA` (15:0). -/

theorem test_decode_rd16_status : decodeTableWord 32 0x00000000 = some .rd16Status := by decide
theorem test_decode_rd16_metric_16 : decodeTableWord 32 0x00640000 = some .rd16Metric16 := by decide
theorem test_decode_wr16_base_lo : decodeTableWord 32 0x10201000 = some (.wr16FifoBaseLo 0x1000#16) := by decide
theorem test_decode_wr16_read_pointer_hi : decodeTableWord 32 0x103A0003 = some (.wr16FifoReadPointerHi 3#16) := by decide
theorem test_decode_wr16_control : decodeTableWord 32 0x1002003E = some (.wr16Control 0x3E#16) := by decide
theorem test_decode_burst : decodeTableWord 32 0x2000FFFF = some (.burst 0xFFFF#16) := by decide
theorem test_decode_eval_gpu : decodeTableWord 32 0x21000000 = some .evalGpu := by decide
theorem test_decode_deliver : decodeTableWord 32 0x22000000 = some .deliver := by decide
theorem test_decode_cons_rp_set : decode cfg 0x23000000#32 (.number 0x1800#32) = .ok (.instr (.consRpSet 0x1800#32)) := by rfl
theorem test_decode_cons_dist_sub : decode cfg 0x24000000#32 (.number 0x20#32) = .ok (.instr (.consDistSub 0x20#32)) := by rfl
theorem test_decode_cons_safe_publish : decode cfg 0x25000000#32 (.number 0x1820#32) = .ok (.instr (.consSafePublish 0x1820#32)) := by rfl
theorem test_decode_cons_bbox_set :
    decode cfg 0x26000000#32 (.box 10#16 20#16 30#16 40#16) = .ok (.instr (.consBboxSet 10#16 20#16 30#16 40#16)) := by rfl
theorem test_decode_snapshot_save : decodeTableWord 32 0x27000000 = some .snapshotSave := by decide
theorem test_decode_snapshot_restore :
    decode cfg 0x28000000#32 (.snapshot zeroSnapshot) = .ok (.instr (.snapshotRestore zeroSnapshot)) := by rfl
theorem test_decode_reset : decodeTableWord 32 0x29000000 = some .reset := by decide
theorem test_decode_reserved_selector : decode cfg 0x2A000000#32 .none = .error .reservedSelector := by rfl
theorem test_decode_reserved_kind : decode cfg 0x30000000#32 .none = .error .reservedKind := by rfl
theorem test_decode_data_in_read : decode cfg 0x00000001#32 .none = .error .nonzeroData := by rfl
theorem test_decode_selector_in_read : decode cfg 0x01000000#32 .none = .error .nonzeroSelector := by rfl
theorem test_decode_odd_offset : decode cfg 0x00210000#32 .none = .error .oddOffset := by rfl
theorem test_decode_offset_in_port : decode cfg 0x21010000#32 .none = .error .nonzeroOffset := by rfl
theorem test_decode_data_in_port : decode cfg 0x21000001#32 .none = .error .nonzeroData := by rfl
theorem test_decode_missing_operand : decode cfg 0x23000000#32 .none = .error .operandMismatch := by rfl
theorem test_decode_unmapped_read : decode cfg 0x00080000#32 .none = .ok (.unmappedRead 0x08#8) := by rfl
theorem test_decode_unmapped_write : decode cfg 0x10081234#32 .none = .ok (.unmappedWrite 0x08#8 0x1234#16) := by rfl
theorem test_decode_further_metric_read : decode metricCfg 0x005C0000#32 .none = .ok (.metricRead 0x5C#8 7#16) := by rfl
theorem test_decode_further_metric_write : decode metricCfg 0x105C1234#32 .none = .ok (.metricWrite 0x5C#8 0x1234#16) := by rfl
theorem test_encode_burst : encode cfg (.burst 32#16) = (0x20000020#32, .none) := by decide

/-! ## Steps -/

theorem test_step_first_after_reset :
    step (State.reset.withFetchWord 32 0x20000020) = exec (.burst 32#16) State.reset := by rfl
theorem test_step_refuses_reserved_word : step (s0.withFetchWord 32 0x30000000) = .refused (.undecodable .reservedKind) := by rfl
-- 40_mmio_reads.md R158, 41_mmio_writes.md R206: a further pair of METRICS reads its constant and takes no write
theorem test_step_further_metric_reads :
    (after (step ((State.resetOf metricCfg).withFetchWord 32 0x005C0000)) State.readData).join = some 7#16 := by rfl
theorem test_step_further_metric_write_ignored :
    step ((State.resetOf metricCfg).withFetchWord 32 0x105CFFFF) = .next (State.resetOf metricCfg) := by rfl
theorem test_step_idle : step s0 = .next s0 := by rfl

/-! ## Reads (V-RD) -/

-- V-RD 1, S9
theorem test_rd16Status_reset : reads .rd16Status s0 = some 0x000C#16 := by decide
-- V-RD 2
theorem test_rd16Status_all_flags :
    reads .rd16Status { enabled with breakpointHit := true, hiWatermarkHit := true, loWatermarkHit := true, distance := 0x20, readPointer := 1 }
      = some 0x0013#16 := by decide
-- V-RD 3
theorem test_rd16Control :
    reads .rd16Control { s0 with readEnabled := true, linkEnabled := true, hiWatermarkInterruptEnabled := true } = some 0x0015#16 := by decide
-- V-RD 4
theorem test_rd16Clear : reads .rd16Clear s0 = some 0x0000#16 := by decide
-- V-RD 5: any value; the read changes nothing else
theorem test_rd16PerfSelect : after (exec .rd16PerfSelect s0) (fun t => (t.toSavedCore, t.out)) = some (s0.toSavedCore, []) := by rfl
-- V-RD 6
theorem test_rd16Token : reads .rd16Token { s0 with token := 0xBEEF } = some 0xBEEF#16 := by decide
-- V-RD 7: (l, r, t, b) = (10, 20, 30, 40)
theorem test_rd16Bbox :
    [Instr.rd16BboxLeft, .rd16BboxRight, .rd16BboxTop, .rd16BboxBottom].map
      (reads · { s0 with bboxLeft := 10, bboxRight := 20, bboxTop := 30, bboxBottom := 40 }) =
      [some 10#16, some 20#16, some 30#16, some 40#16] := by decide
-- V-RD 8
theorem test_rd16FifoBase :
    [Instr.rd16FifoBaseLo, .rd16FifoBaseHi].map (reads · { s0 with base := 0x03FF1220 }) = [some 0x1220#16, some 0x03FF#16] := by decide
-- V-RD 8, joined (30_encoding.md R102)
theorem test_rd32_base : rd32Value .fifoBase [] { s0 with base := 0x03FF1220 } = some 0x03FF1220#32 := by decide
-- 40_mmio_reads.md R178: a write of the field between the two reads
theorem test_rd32_torn : rd32Value .fifoBase (wr32 .fifoBase 0x00012000#32) { s0 with base := 0x03FF1220 } = some 0x00011220#32 := by decide
-- 40_mmio_reads.md R141, R142
theorem test_rd16FifoEnd :
    [Instr.rd16FifoEndLo, .rd16FifoEndHi].map (reads · { s0 with endAddr := 0x00012000 }) = [some 0x2000#16, some 0x0001#16] := by decide
-- P4 step 6
theorem test_rd16FifoHiWatermark :
    [Instr.rd16FifoHiWatermarkLo, .rd16FifoHiWatermarkHi].map (reads · watermarks) = [some 0x0064#16, some 0#16] := by decide
theorem test_rd16FifoLoWatermark :
    [Instr.rd16FifoLoWatermarkLo, .rd16FifoLoWatermarkHi].map (reads · { watermarks with loWatermark := 0x00020032 }) =
      [some 0x0032#16, some 2#16] := by decide
-- V-RD 9
theorem test_rd16FifoWritePointer :
    [Instr.rd16FifoWritePointerLo, .rd16FifoWritePointerHi].map (reads · { s0 with writePointer := 0x0000101F }) =
      [some 0x101F#16, some 0#16] := by decide
theorem test_rd16FifoBp :
    [Instr.rd16FifoBpLo, .rd16FifoBpHi].map (reads · { s0 with breakpoint := 0x00011800 }) = [some 0x1800#16, some 1#16] := by decide
-- V-RD 10
theorem test_rd16FifoRwDistance_single :
    [Instr.rd16FifoRwDistanceLo, .rd16FifoRwDistanceHi].map (reads · { s0 with distance := 0x00010060 }) =
      [some 0x0060#16, some 0x0001#16] := by decide
-- V-RD 11
theorem test_rd16FifoRwDistance_dual_wrapped :
    [Instr.rd16FifoRwDistanceLo, .rd16FifoRwDistanceHi].map
      (reads · { d0 with base := 0x1000, endAddr := 0x2000, writePointer := 0x1040, safeReadPointer := 0x1FE0, distance := 0x9999 }) =
      [some 0x0060#16, some 0#16] := by decide
-- V-RD 14
theorem test_rd16FifoReadPointer_dual :
    reads .rd16FifoReadPointerLo { d0 with readPointer := 0x1820, safeReadPointer := 0x1800 } = some 0x1800#16 := by decide
-- V-RD 15
theorem test_rd16FifoReadPointer_single :
    [Instr.rd16FifoReadPointerLo, .rd16FifoReadPointerHi].map (reads · { s0 with readPointer := 0x00031820, safeReadPointer := 0x1800 }) =
      [some 0x1820#16, some 3#16] := by decide
-- V-RD 16, 17
theorem test_rd16Metrics :
    [Instr.rd16Metric00, .rd16Metric01, .rd16Metric02, .rd16Metric03, .rd16Metric04, .rd16Metric05, .rd16Metric06, .rd16Metric07, .rd16Metric08,
      .rd16Metric09, .rd16Metric10, .rd16Metric11, .rd16Metric12, .rd16Metric13, .rd16Metric14, .rd16Metric15, .rd16Metric16].map (reads · s0) =
      List.replicate 16 (some 0#16) ++ [some 4#16] := by decide

/-! ## Writes (V-WR) -/

-- V-WR 1, 6, 7, 9, 18: rejected or ignored
theorem test_wr16_rejected :
    [Instr.wr16Status 0xFFFF#16, .wr16Clear 3#16, .wr16PerfSelect 1#16, .wr16BboxLeft 1#16, .wr16BboxRight 0#16, .wr16BboxTop 1#16,
      .wr16BboxBottom 1#16, .wr16Metric00 1#16, .wr16Metric16 0xFFFF#16].map (fun i => after (exec i enabled) fun t => (t.toSavedCore, t.out)) = List.replicate 9 (some (enabled.toSavedCore, [])) := by
  decide
-- V-WR 2
theorem test_wr16Control_rises :
    after (exec (.wr16Control 0xFFFF#16) s0) (fun t => (t.toDescriptor, t.out)) = some (enabled.toDescriptor, []) := by decide
-- V-WR 3, with a consumer that drains during the flush, before read-enable falls
theorem test_wr16Control_falls :
    after (exec (.wr16Control 0x003E#16) { enabled with interleaved := { Interleaving.none with flush := [.rpSet 0x20#32, .evalGpu] } })
      (fun t => (t.readEnabled, t.linkEnabled, t.readPointer, t.out)) = some (false, true, 0x20#32, [.flushGpu]) := by decide
-- V-WR 8
theorem test_wr16Token : after (exec (.wr16Token 0xBEEF#16) s0) (·.token) = some 0xBEEF#16 := by decide
-- V-WR 10
theorem test_wr16FifoBaseLo : after (exec (.wr16FifoBaseLo 0x1234#16) s0) (·.base) = some 0x00001220#32 := by decide
-- V-WR 11
theorem test_wr16FifoBaseHi : after (exec (.wr16FifoBaseHi 0xFFFF#16) { s0 with base := 0x1220 }) (·.base) = some 0x03FF1220#32 := by decide
-- 41_mmio_writes.md R192, R193
theorem test_wr16FifoEndLo : after (exec (.wr16FifoEndLo 0x2000#16) s0) (·.endAddr) = some 0x00002000#32 := by decide
theorem test_wr16FifoEndHi : after (exec (.wr16FifoEndHi 1#16) { s0 with endAddr := 0x2000 }) (·.endAddr) = some 0x00012000#32 := by decide
-- V-WR 12, 13
theorem test_wr16FifoHiWatermarkLo : after (exec (.wr16FifoHiWatermarkLo 100#16) s0) (·.hiWatermark) = some 96#32 := by decide
theorem test_wr16FifoHiWatermarkHi : after (exec (.wr16FifoHiWatermarkHi 0x8001#16) s0) (·.hiWatermark) = some 0x00010000#32 := by decide
theorem test_wr16FifoLoWatermarkLo : after (exec (.wr16FifoLoWatermarkLo 50#16) s0) (·.loWatermark) = some 32#32 := by decide
theorem test_wr16FifoLoWatermarkHi : after (exec (.wr16FifoLoWatermarkHi 1#16) s0) (·.loWatermark) = some 0x00010000#32 := by decide
-- V-WR 14
theorem test_wr16FifoRwDistanceLo : after (exec (.wr16FifoRwDistanceLo 0#16) { s0 with distance := 0x7F }) (·.distance) = some 0x1F#32 := by decide
theorem test_wr16FifoRwDistanceHi : after (exec (.wr16FifoRwDistanceHi 2#16) { s0 with distance := 0x7F }) (·.distance) = some 0x0002007F#32 := by
  decide
-- 41_mmio_writes.md R200, R201
theorem test_wr16FifoWritePointerLo :
    after (exec (.wr16FifoWritePointerLo 0x1000#16) s0) (fun t => (t.writePointer, t.linkWritePointer)) = some (0x1000#32, 0#32) := by decide
theorem test_wr16FifoWritePointerHi :
    after (exec (.wr16FifoWritePointerHi 0x31#16) { s0 with writePointer := 0x1000 }) (·.writePointer) = some 0x00311000#32 := by decide
-- V-WR 15
theorem test_wr16FifoReadPointerLo :
    after (exec (.wr16FifoReadPointerLo 0xFFFF#16) { s0 with readPointer := 0x101F }) (fun t => (t.readPointer, t.safeReadPointer)) =
      some (0xFFFF#32, 0#32) := by decide
theorem test_wr16FifoReadPointerHi : after (exec (.wr16FifoReadPointerHi 0xFFFF#16) s0) (·.readPointer) = some 0x03FF0000#32 := by decide
-- 41_mmio_writes.md R204, V-WR 17
theorem test_wr16FifoBpLo : after (exec (.wr16FifoBpLo 0x1800#16) s0) (·.breakpoint) = some 0x1800#32 := by decide
theorem test_wr16FifoBpHi : after (exec (.wr16FifoBpHi 0x8001#16) { s0 with breakpoint := 0x1800 }) (·.breakpoint) = some 0x00011800#32 := by
  decide

/-! ## Producer, evaluator, consumer, host (V-BURST, V-EVAL, V-CONS, V-SNAP) -/

-- V-BURST 4
theorem test_burst_wraps :
    after (exec (.burst 32#16) ring) (fun t => (t.writePointer, t.linkWritePointer, t.distance, t.fault, t.out)) =
      some (0x1000#32, 0x1000#32, 0x60#32, none, [.excCheck, .runGpu]) := by decide
-- V-BURST 2
theorem test_burst_unlinked_flushes :
    after (exec (.burst 32#16) { ring with linkEnabled := false, distance := 0x20 }) (fun t => (t.writePointer, t.distance, t.out)) =
      some (0x1040#32, 0x20#32, [.flushGpu, .runGpu]) := by decide
-- V-EVAL 15
theorem test_evalGpu_applies :
    after (exec .evalGpu atBreakpoint) (fun t => (t.breakpointHit, t.interruptAsserted, t.eventQueue, t.out)) =
      some (true, true, [], [.setInterrupt 7 true, .excCheck, .runGpu]) := by decide
-- V-EVAL 10
theorem test_evalGpu_defers :
    after (exec .evalGpu atBreakpointDual) (fun t => (t.interruptAsserted, t.interruptChangePending, t.eventQueue, t.out)) =
      some (false, true, [true], [.schedule true]) := by decide
-- V-EVAL 13
theorem test_deliver :
    after (exec .deliver inFlight) (fun t => (t.interruptAsserted, t.interruptChangePending, t.eventQueue, t.out)) =
      some (true, false, [], [.setInterrupt 7 true, .excCheck, .runGpu]) := by decide
-- V-EVAL 14
theorem test_deliver_empty : exec .deliver s0 = .fault .nothingToDeliver := by rfl
-- V-CONS 1, 2, 3, 4, 5
theorem test_consRpSet : after (exec (.consRpSet 0x1800#32) s0) (fun t => (t.readPointer, t.safeReadPointer)) = some (0x1800#32, 0#32) := by decide
theorem test_consDistSub : after (exec (.consDistSub 0x20#32) { s0 with distance := 0x60 }) (·.distance) = some 0x40#32 := by decide
theorem test_consDistSub_wraps : after (exec (.consDistSub 0x40#32) { s0 with distance := 0x20 }) (·.distance) = some 0xFFFFFFE0#32 := by decide
theorem test_consSafePublish : after (exec (.consSafePublish 0x1820#32) s0) (fun t => (t.safeReadPointer, t.readPointer)) = some (0x1820#32, 0#32) := by
  decide
theorem test_consBboxSet :
    after (exec (.consBboxSet 10#16 20#16 30#16 40#16) s0) (fun t => (t.bboxLeft, t.bboxRight, t.bboxTop, t.bboxBottom)) =
      some (10#16, 20#16, 30#16, 40#16) := by decide
-- V-CONS 6
theorem test_drain_wraps :
    drain 32#32 { s0 with base := 0x1000, endAddr := 0x1080, readPointer := 0x1060, distance := 0x40 } =
      [.consRpSet 0x1000#32, .consDistSub 32#32, .evalGpu] := by decide
-- V-SNAP 3
theorem test_snapshotSave : after (exec .snapshotSave inFlight) (fun t => t.saved.map (·.queue)) = some (some [true]) := by decide
-- V-SNAP 2
theorem test_snapshotRestore :
    after (exec (.snapshotRestore { core := watermarks.toSavedCore, queue := [] }) s0) (fun t => (t.hiWatermark, t.hiWatermarkHit, t.out)) =
      some (100#32, false, []) := by decide
-- V-SNAP 4
theorem test_reset_halted : after (exec .reset halted) (fun t => (t.fault, t.toSavedCore, t.out)) = some (none, s0.toSavedCore, []) := by decide
-- V-SNAP 6
theorem test_reset_line_falls_silently :
    after (exec .reset { s0 with interruptAsserted := true }) (fun t => (t.interruptAsserted, t.out)) = some (false, []) := by decide

/-! ## Witnesses

For each statement with hypotheses, a concrete state and operands that meet them together, clause by clause where it has several. -/

theorem witness_ResetHoldsTheDecidedValues : s0 = State.resetOf cfg := rfl
theorem witness_StatusReadShowsHitsAndIdleBits : Running s0 ∧ s0.cfg.statusBitsDistinct = true := ⟨rfl, rfl⟩
theorem witness_ControlReadReassemblesTheEnables :
    Running s0 ∧ s0.cfg.controlBitsDistinct = true ∧ s0.cfg.controlBits.mask.getLsbD 6 = false ∧ s0.cfg.controlBits.mask.getLsbD 15 = false :=
  ⟨rfl, rfl, rfl, rfl⟩
theorem witness_ControlReadsBackTheMaskedWrite : Running enabled ∧ enabled.cfg.controlBitsDistinct = true := ⟨rfl, rfl⟩
theorem witness_ConstantRegistersReadTheirConstants : Running s0 := rfl
theorem witness_RejectedReadReturnsADrawnValue : Running s0 := rfl
theorem witness_TokenAndBoxReadsAreDirect :
    Running s0 ∧ (∃ t, exec (.wr16Token 0xBEEF#16) s0 = .next t) ∧ (∃ t, exec .reset halted = .next t) := ⟨rfl, ⟨_, rfl⟩, ⟨_, rfl⟩⟩
theorem witness_DirectHalfReadsShowTheField : Running ring := rfl
theorem witness_ModeDependentReadsFollowTheMode_single : Running s0 ∧ s0.cfg.dualThread = false := ⟨rfl, rfl⟩
theorem witness_ModeDependentReadsFollowTheMode_dual : Running d0 ∧ d0.cfg.dualThread = true ∧ d0.safeReadPointer.toNat ≤ d0.writePointer.toNat :=
  ⟨rfl, rfl, Nat.le_refl _⟩
theorem witness_ModeDependentReadsFollowTheMode_wrapped :
    ∃ s, s = { d0 with safeReadPointer := 1 } ∧ Running s ∧ s.cfg.dualThread = true ∧ s.writePointer.toNat < s.safeReadPointer.toNat :=
  ⟨_, rfl, rfl, rfl, by decide⟩
theorem witness_ReadsChangeNothingAndRepeat :
    (∃ t, exec (readInstr .status) s0 = .next t) ∧ Reg.status ≠ .perfSelect ∧ (∃ t, exec (readInstr .perfSelect) s0 = .next t) ∧
      (∃ t, execRd16FurtherMetric 7#16 s0 = .next t) ∧ ∃ t, execRd16Unmapped 0x08#8 s0 = .next t :=
  ⟨⟨_, rfl⟩, by decide, ⟨_, rfl⟩, ⟨_, rfl⟩, ⟨_, rfl⟩⟩
theorem witness_HalfWritesMergeUnderTheMask : Running ring ∧ ring.cfg.maskedWriteKeepsOld = true := ⟨rfl, rfl⟩
theorem witness_DistanceAndReadPointerWritesReachTheStoredField : Running d0 ∧ d0.cfg.maskedWriteKeepsOld = true := ⟨rfl, rfl⟩
theorem witness_HalfWritesUnderEitherMaskSetting :
    Running ring ∧ SplitField.fifoEnd ≠ .fifoBase ∧ (0xFFE0#16).getLsbD 4 = false ∧ (0xFFE0#16).getLsbD 5 = true ∧
      ring.cfg.hiMask.getLsbD 9 = true ∧ ring.cfg.hiMask.getLsbD 10 = false := ⟨rfl, by decide, rfl, rfl, rfl, rfl⟩
theorem witness_TokenWriteStoresEveryBit : Running s0 := rfl
theorem witness_RejectedWritesChangeNothing :
    Running s0 ∧ ∃ t, exec .reset halted = .next t ∧ (∃ u, exec (.wr16BboxLeft 0xFFFF#16) t = .next u) ∧
      (∃ u, exec (.wr16BboxRight 0#16) t = .next u) ∧ (∃ u, exec (.wr16BboxTop 0xFFFF#16) t = .next u) ∧
      (∃ u, exec (.wr16BboxBottom 0#16) t = .next u) := ⟨rfl, _, rfl, ⟨_, rfl⟩, ⟨_, rfl⟩, ⟨_, rfl⟩, ⟨_, rfl⟩⟩
theorem witness_ClearAndMetricsWritesChangeNothing : Running s0 := rfl
theorem witness_ControlWriteCopiesTheSixFlags :
    (Running s0 ∧ s0.readEnabled = false) ∧ (Running enabled ∧ (0x003F#16).getLsbD enabled.cfg.controlBits.readEnable.val = true) :=
  ⟨⟨rfl, rfl⟩, rfl, rfl⟩
theorem witness_ControlFallingEdgeFlushesFirst :
    Running enabled ∧ enabled.readEnabled = true ∧ (0x003E#16).getLsbD enabled.cfg.controlBits.readEnable.val = false ∧ NothingBetween enabled :=
  ⟨rfl, rfl, rfl, .inl rfl⟩
theorem witness_NoRegisterWriteRunsTheEvaluator :
    (∃ t, exec (writeInstr .control 0x003E#16) enabled = .next t) ∧ NothingInside enabled ∧
      (∃ t, exec (writeInstr .fifoBpLo 0#16) d0 = .next t) ∧ NothingInside d0 :=
  ⟨⟨_, rfl⟩, ⟨.inl rfl, rfl⟩, ⟨_, rfl⟩, .inr ⟨rfl, rfl, rfl, rfl, rfl, rfl, rfl⟩, rfl⟩
theorem witness_TwoHalfWritesComposeInEitherOrder :
    Running ring ∧ ring.cfg.maskedWriteKeepsOld = true ∧ SplitField.fifoEnd ≠ .fifoBase := ⟨rfl, rfl, by decide⟩
/-- `RD32` in both modes, the computed distance on both sides of the wrap, and a field that no mode changes. -/
theorem witness_TwoHalfWritesComposeInEitherOrder_rd32 :
    (Running ring ∧ ring.cfg.dualThread = false) ∧ (SplitField.fifoBp ≠ .fifoRwDistance ∧ SplitField.fifoBp ≠ .fifoReadPointer) ∧
      (Running d0 ∧ d0.cfg.dualThread = true ∧ d0.safeReadPointer.toNat ≤ d0.writePointer.toNat) ∧
      ∃ s, s = { d0 with safeReadPointer := 1 } ∧ Running s ∧ s.cfg.dualThread = true ∧ s.writePointer.toNat < s.safeReadPointer.toNat :=
  ⟨⟨rfl, rfl⟩, ⟨by decide, by decide⟩, ⟨rfl, rfl, Nat.le_refl _⟩, _, rfl, rfl, rfl, by decide⟩
theorem witness_TwoHalfWritesComposeInEitherOrder_torn :
    Running s0 ∧ s0.cfg.dualThread = false ∧ ∃ t, runInstrs (wr32 .fifoBase 0x00012000#32) s0 = .next t := ⟨rfl, rfl, _, rfl⟩
theorem witness_RegisterWritesKeepFieldsAligned :
    (∃ t, exec (writeInstr .fifoBaseLo 0xFFFF#16) ring = .next t) ∧ NothingInside ring ∧ Aligned32 ring.toDescriptor :=
  ⟨⟨_, rfl⟩, ⟨.inl rfl, rfl⟩, fun f => by cases f <;> decide⟩
theorem witness_UnlinkedBurstMovesNothing : Running s0 ∧ s0.linkEnabled = false ∧ NothingBetween s0 ∧ NothingInside s0 :=
  ⟨rfl, rfl, .inl rfl, .inl rfl, rfl⟩
theorem witness_UnlinkedBurstFlushesOnlyAMatchingNonemptyQueue :
    ∃ s, s = { ring with linkEnabled := false } ∧ Running s ∧ s.linkEnabled = false ∧ NothingInside s ∧ s.cfg.flushOnUnlinkedBurst = true ∧
      s.linkBase = s.base ∧ s.linkEnd = s.endAddr ∧ s.distance ≠ 0#32 := ⟨_, rfl, rfl, rfl, ⟨.inl rfl, rfl⟩, rfl, rfl, rfl, by decide⟩
theorem witness_UnlinkedBurstFlushesOnlyAMatchingNonemptyQueue_none :
    Running s0 ∧ s0.linkEnabled = false ∧ NothingInside s0 ∧ s0.distance = 0#32 := ⟨rfl, rfl, ⟨.inl rfl, rfl⟩, rfl⟩
theorem witness_LinkedBurstAdvancesWrapsAndPublishes_wraps :
    Running ring ∧ ring.linkEnabled = true ∧ ring.readEnabled = true ∧ ring.writePointer + (32#16).setWidth 32 = ring.endAddr :=
  ⟨rfl, rfl, rfl, by decide⟩
theorem witness_LinkedBurstAdvancesWrapsAndPublishes_advances :
    ∃ s, s = { emptyRing with readEnabled := false } ∧ Running s ∧ s.linkEnabled = true ∧ s.readEnabled = false ∧
      s.writePointer + (32#16).setWidth 32 ≠ s.endAddr := ⟨_, rfl, rfl, rfl, rfl, by decide⟩
/-- Clause 3 at the capacity: 0x40 + 0x20 is exactly `end - base`. -/
theorem witness_LinkedBurstAddsThenChecks_fits :
    Running ring ∧ ring.linkEnabled = true ∧ NothingBetween ring ∧
      (ring.distance + (32#16).setWidth 32).toNat = (ring.endAddr - ring.base).toNat ∧ ring.readEnabled = true :=
  ⟨rfl, rfl, .inl rfl, by decide, rfl⟩
/-- Clause 1 just above the capacity. -/
theorem witness_LinkedBurstAddsThenChecks_overflows :
    Running ring ∧ ring.linkEnabled = true ∧ NothingBetween ring ∧
      (ring.endAddr - ring.base).toNat < (ring.distance + (33#16).setWidth 32).toNat := ⟨rfl, rfl, .inl rfl, by decide⟩
/-- Clause 2: read-enable off, so the link state is stale and the write pointer has moved on. -/
theorem witness_LinkedBurstAddsThenChecks_desyncs :
    ∃ s, s = { emptyRing with readEnabled := false } ∧ Running s ∧ s.linkEnabled = true ∧ NothingBetween s ∧
      (s.distance + (32#16).setWidth 32).toNat ≤ (s.endAddr - s.base).toNat ∧ s.linkWritePointer ≠ s.writePointer + (32#16).setWidth 32 ∧
      s.writePointer + (32#16).setWidth 32 ≠ s.endAddr := ⟨_, rfl, rfl, rfl, .inl rfl, by decide, by decide, by decide⟩
theorem witness_BurstEvaluatesBeforeItAdds : Running atBreakpoint ∧ NothingInside atBreakpoint := ⟨rfl, .inl rfl, rfl⟩
theorem witness_BurstKeepsTheProgramming : ∃ t, exec (.burst 32#16) ring = .next t := ⟨_, rfl⟩
theorem witness_LinkedBurstWithoutReadEnableIsFatalUnlessLinked :
    ∃ s, s = { emptyRing with readEnabled := false, linkWritePointer := 0x1020 } ∧ Running s ∧ s.linkEnabled = true ∧ s.readEnabled = false ∧
      after (exec (.burst 32#16) s) (·.fault) = some none := ⟨_, rfl, rfl, rfl, rfl, by decide⟩
theorem witness_LinkedBurstOnAnUnprogrammedQueueOverflows : (1#16 : U16) ≠ 0#16 := by decide
theorem witness_BurstsFillTheRingExactlyToCapacity :
    Running emptyRing ∧ emptyRing.linkEnabled = true ∧ emptyRing.readEnabled = true ∧ NothingBetween emptyRing ∧ emptyRing.distance = 0#32 ∧
      QueueOk emptyRing.toDescriptor ∧ BurstAligned (32#16 : U16).toNat emptyRing.toDescriptor ∧
      3 * (32#16 : U16).toNat ≤ capacity emptyRing.toDescriptor ∧ capacity emptyRing.toDescriptor < (3 + 1) * (32#16 : U16).toNat ∧
      (3 + 1) * (32#16 : U16).toNat < 2 ^ 32 :=
  ⟨rfl, rfl, rfl, .inl rfl, rfl, ⟨by decide, by decide, by decide, by decide⟩, ⟨by decide, by decide⟩, by decide, by decide, by decide⟩
theorem witness_AddAndSubtractBothTakeEffect :
    ∃ s, s = { ring with cfg := dualCfg } ∧ Running s ∧ s.linkEnabled = true ∧ s.cfg.dualThread = true := ⟨_, rfl, rfl, rfl, rfl⟩
theorem witness_EvaluationRewritesTheHitFlags : Running watermarks := rfl
/-- The line is as it should be; the change is deferred; it is applied. -/
theorem witness_EvalGpuDefersOrApplies :
    (Running s0 ∧ compositeCondition (refreshHits s0.toDescriptor) = s0.interruptAsserted) ∧ (Running inFlight ∧ inFlight.interruptChangePending = true) ∧
      (Running atBreakpointDual ∧ compositeCondition (refreshHits atBreakpointDual.toDescriptor) ≠ atBreakpointDual.interruptAsserted ∧
        atBreakpointDual.interruptChangePending = false ∧ atBreakpointDual.cfg.dualThread = true) ∧
      (Running atBreakpoint ∧ compositeCondition (refreshHits atBreakpoint.toDescriptor) ≠ atBreakpoint.interruptAsserted ∧
        atBreakpoint.interruptChangePending = false ∧ atBreakpoint.cfg.dualThread = false) :=
  ⟨⟨rfl, rfl⟩, ⟨rfl, rfl⟩, ⟨rfl, by decide, rfl, rfl⟩, rfl, by decide, rfl, rfl⟩
theorem witness_PendingChangeBlocksBothSides : inFlight.interruptChangePending = true := rfl
theorem witness_SecondEvaluationChangesNothing : ∃ t, exec .evalGpu atBreakpointDual = .next t := ⟨_, rfl⟩
theorem witness_BreakpointInterruptAssertsIff :
    Running atBreakpoint ∧ atBreakpoint.cfg.dualThread = false ∧ atBreakpoint.interruptChangePending = false ∧
      atBreakpoint.hiWatermarkInterruptEnabled = false ∧ atBreakpoint.loWatermarkInterruptEnabled = false := ⟨rfl, rfl, rfl, rfl, rfl⟩
theorem witness_BreakpointFlagMovesOnItsEdges :
    bpRise atBreakpoint.toDescriptor = true ∧ bpFall { inFlight.toDescriptor with readPointer := 0x1820 } = true ∧
      (bpRise inFlight.toDescriptor = false ∧ bpFall inFlight.toDescriptor = false) := by decide
theorem witness_EvaluatorAndStatusIgnoreTheSafePointer :
    (∃ v, exec .rd16Status s0 = .next v) ∧ ∃ v, exec .rd16Status { s0 with safeReadPointer := 1, linkBase := 2, cfg := dualCfg } = .next v :=
  ⟨⟨_, rfl⟩, ⟨_, rfl⟩⟩
theorem witness_DeliverAppliesTheHeadOrIsStuck : (Running inFlight ∧ inFlight.eventQueue = [true]) ∧ (Running s0 ∧ s0.eventQueue = []) :=
  ⟨⟨rfl, rfl⟩, rfl, rfl⟩
theorem witness_LineFollowsTheSink :
    (∃ t, exec .evalGpu atBreakpoint = .next t) ∧ Instr.evalGpu ≠ .reset ∧ ∀ snap, Instr.evalGpu ≠ .snapshotRestore snap :=
  ⟨⟨_, rfl⟩, by decide, fun _ h => nomatch h⟩
theorem witness_ConsumerPortWritesItsFields : Running s0 ∧ Running d0 ∧ d0.cfg.dualThread = true := ⟨rfl, rfl, rfl⟩
theorem witness_AgentsWriteOnlyTheirFields_cpu :
    NothingInside s0 ∧ (∃ t, exec (writeInstr .control 1#16) s0 = .next t) ∧ (∃ t, exec (readInstr .status) s0 = .next t) ∧
      (∃ t, exec (.burst 32#16) s0 = .next t) ∧ s0.linkEnabled = false ∧ NothingInside inFlight ∧ ∃ t, exec .deliver inFlight = .next t :=
  ⟨⟨.inl rfl, rfl⟩, ⟨_, rfl⟩, ⟨_, rfl⟩, ⟨_, rfl⟩, rfl, ⟨.inr ⟨rfl, rfl, rfl, rfl, rfl, rfl, rfl⟩, rfl⟩, ⟨_, rfl⟩⟩
theorem witness_AgentsWriteOnlyTheirFields_others :
    (∃ t, exec .evalGpu atBreakpoint = .next t) ∧ Instr.evalGpu.agent = .consumer ∧ atBreakpoint.cfg.dualThread = false ∧
      (∃ t, exec .evalGpu atBreakpointDual = .next t) ∧ atBreakpointDual.cfg.dualThread = true ∧
      ∃ t, exec (.snapshotRestore zeroSnapshot) s0 = .next t := ⟨⟨_, rfl⟩, rfl, rfl, ⟨_, rfl⟩, rfl, ⟨_, rfl⟩⟩
theorem witness_OnlyPublishingMovesTheSafePointer :
    ∃ s, s = { ring with interleaved := { Interleaving.none with flush := [.rpSet 0#32] } } ∧ (∃ t, exec (.burst 32#16) s = .next t) ∧
      (∀ v, ConsumerOp.safePublish v ∉ s.interleaved.ops) ∧ (∀ v, Instr.burst 32#16 ≠ .consSafePublish v) ∧
      (∀ snap, Instr.burst 32#16 ≠ .snapshotRestore snap) ∧ Instr.burst 32#16 ≠ .reset := by
  refine ⟨_, rfl, ⟨_, rfl⟩, ?_, ?_, ?_, by decide⟩ <;> intro x h
  · simp [Interleaving.ops, Interleaving.none] at h
  · cases h
  · cases h
theorem witness_SnapshotSaveYieldsCoreAndQueue :
    Running inFlight ∧ ∃ t u, exec .reset halted = .next t ∧ exec .snapshotSave t = .next u := ⟨rfl, _, _, rfl, rfl⟩
theorem witness_SnapshotRestoreInstallsCoreAndQueue : Running s0 := rfl
theorem witness_SnapshotRoundTripReproducesTheState :
    Running watermarks ∧ Running s0 ∧ SameLinkState watermarks s0 ∧ watermarks.cfg = s0.cfg ∧ watermarks.consAtBreakpoint = s0.consAtBreakpoint :=
  ⟨rfl, rfl, ⟨rfl, rfl, rfl⟩, rfl, rfl⟩
theorem witness_HaltedTrackerRefusesAllButReset : halted.fault = some .overflow ∧ Instr.evalGpu ≠ .reset := ⟨rfl, by decide⟩
theorem witness_OnlyABurstRaisesAFault :
    after (exec (.burst 32#16) { s0 with linkEnabled := true, readEnabled := true }) (·.fault) = some (some .overflow) ∧
      (∃ t, exec .reset halted = .next t) ∧ halted.fault = some .overflow := ⟨by decide, ⟨_, rfl⟩, rfl⟩
theorem witness_EveryStepKeepsTheConfiguration : ∃ t, step (s0.withFetchWord 32 0x29000000) = .next t := ⟨_, rfl⟩
theorem witness_EveryStepKeepsTheMailbox :
    ∃ s, s = issueFirst 0x28000000#32 (.snapshot { core := inFlight.toSavedCore, queue := [true] }) d0 ∧ (∃ t, step s = .next t) ∧ Mailbox s ∧
      IssuedAgree s := by
  refine ⟨_, rfl, ⟨_, rfl⟩, ⟨rfl, fun h => nomatch h⟩, ?_⟩
  intro op hop snap hs
  rcases List.mem_cons.mp hop with rfl | hop
  · cases hs; rfl
  · cases hop
theorem witness_DecodeInvertsEncode : Config.default.wellFormed = true ∧ (Instr.wr16FifoBpHi 0xFFFF#16).wellFormed Config.default = true := by decide
theorem witness_EncodeInvertsDecode :
    cfg.wellFormed = true ∧ decode cfg 0x103EFFFF#32 .none = .ok (.instr (.wr16FifoBpHi 0xFFFF#16)) ∧
      decode cfg 0x10FEFFFF#32 .none = .ok (.unmappedWrite 0xFE#8 0xFFFF#16) := ⟨by decide, rfl, rfl⟩
/-- The fields of a rejected word and of the last accepted selector; operands that fit a word, and operands that do not. -/
theorem witness_DecoderRejectsExactlyTheIrregularWords :
    ((0x2A000000#32 : U32).toNat / 2 ^ 28 = 2 ∧ (0x2A000000#32 : U32).toNat / 2 ^ 24 % 16 = 10 ∧ (0x29000000#32 : U32).toNat / 2 ^ 24 % 16 = 9) ∧
      (∃ e, decode cfg 0x2A000000#32 .none = .error e) ∧ decode cfg 0x29000000#32 .none = .ok (.instr .reset) ∧
      decode cfg 0x26000000#32 (.box 1#16 2#16 3#16 4#16) = .ok (.instr (.consBboxSet 1#16 2#16 3#16 4#16)) ∧
      (∃ e, decode cfg 0x26000000#32 (.number 1#32) = .error e) ∧ ∃ e, decode cfg 0x00000000#32 (.number 1#32) = .error e :=
  ⟨by decide, ⟨_, rfl⟩, rfl, rfl, ⟨_, rfl⟩, _, rfl⟩
theorem witness_StepRunsTheDecodedOperation :
    (∃ op, (s0.withFetchWord 32 0x20000020).issued = [op] ∧ decode s0.cfg op.word op.beside = .ok (.instr (.burst 32#16))) ∧
      (∃ op, (s0.withFetchWord 32 0x30000000).issued = [op] ∧ decode s0.cfg op.word op.beside = .error .reservedKind) ∧ s0.issued = [] :=
  ⟨⟨_, rfl, rfl⟩, ⟨_, rfl, rfl⟩, rfl⟩
theorem witness_UnmappedAccessesAreAbsorbed :
    (∃ op, (s0.withFetchWord 32 0x00080000).issued = [op] ∧ op.beside = .none ∧ op.word = (0x00#8 ++ 0x08#8 ++ 0x0000#16 : U32)) ∧
      (∃ op, (s0.withFetchWord 32 0x10FE1234).issued = [op] ∧ op.beside = .none ∧ op.word = (0x10#8 ++ 0xFE#8 ++ 0x1234#16 : U32)) ∧
      Running s0 ∧ (0x08#8).getLsbD 0 = false ∧ regAt s0.cfg.offsets 0x08#8 = none ∧ (0xFE#8).getLsbD 0 = false ∧
      regAt s0.cfg.offsets 0xFE#8 = none ∧ metricAt s0.cfg.moreMetrics 0x08#8 = none :=
  ⟨⟨_, rfl, rfl, rfl⟩, ⟨_, rfl, rfl, rfl⟩, rfl, rfl, rfl, rfl, rfl, rfl⟩
theorem witness_UnmappedAccessesAreAbsorbed_metric :
    ∃ s op, s = (State.resetOf metricCfg).withFetchWord 32 0x005C0000 ∧ s.issued = [op] ∧ op.beside = .none ∧
      op.word = (0x00#8 ++ 0x5C#8 ++ 0x0000#16 : U32) ∧ Running s ∧ (0x5C#8).getLsbD 0 = false ∧ regAt s.cfg.offsets 0x5C#8 = none ∧
      metricAt s.cfg.moreMetrics 0x5C#8 = some 7#16 := ⟨_, _, rfl, rfl, rfl, rfl, rfl, rfl, rfl, rfl⟩

end Sys2Proof.Tests
end

section
/-! PROOFS. The state after reset and the table of writers (10_state.md R52, R50): one lemma for each column of the table, then the
obligations. -/

namespace Sys2Proof.Machine

/-- Settles O1: the reset state is a literal, so each flag is read off it (10_state.md R52). -/
theorem resetClearsEveryFlag : Obligations.ResetClearsEveryFlag :=
  fun _ => ⟨rfl, rfl, rfl, rfl, rfl, rfl, rfl, rfl, rfl, rfl⟩

/-! ### Register accesses -/

/-- A read leaves the hardware state and the configuration (20_memory.md R69). -/
theorem exec_readInstr_sameTracker {r : Reg} {s t : State} (h : exec (readInstr r) s = .next t) : SameTracker s t := by
  obtain ⟨-, ⟨-, rfl⟩ | ⟨v, rfl⟩⟩ := exec_readInstr_next h <;> exact ⟨rfl, rfl, rfl, rfl, rfl, rfl, rfl⟩

/-- What no register write gives a new value (10_state.md R50). -/
def WriteFrame (s t : State) : Prop :=
  t.safeReadPointer = s.safeReadPointer ∧ SameHits s t ∧ SameBox s t ∧ SameMailbox s t ∧ SameLinkState s t ∧ t.fault = s.fault

theorem controlWrite_writeFrame {s : State} (hq : NothingInside s) (v : U16) : WriteFrame s (controlWrite v s) := by
  obtain ⟨e, he, -⟩ := controlWrite_quiet hq v
  rw [he]
  simp [WriteFrame, SameHits, SameBox, SameMailbox, SameLinkState]

theorem exec_writeInstr_writeFrame {r : Reg} {v : U16} {s t : State} (hq : NothingInside s) (h : exec (writeInstr r v) s = .next t) :
    WriteFrame s t := by
  obtain ⟨-, ⟨-, rfl⟩ | ⟨-, rfl⟩ | ⟨f, x, -, rfl⟩ | rfl⟩ := exec_writeInstr_next h
  · exact controlWrite_writeFrame hq v
  · simp [WriteFrame, SameHits, SameBox, SameMailbox, SameLinkState]
  · cases f <;> simp [WriteFrame, SameHits, SameBox, SameMailbox, SameLinkState]
  · simp [WriteFrame, SameHits, SameBox, SameMailbox, SameLinkState]

/-! ### The producer -/

/-- What no step of a burst gives a new value, in either link mode (10_state.md R50). -/
def ProducerFrame (s t : State) : Prop :=
  SameProgramming s t ∧ t.readPointer = s.readPointer ∧ t.safeReadPointer = s.safeReadPointer ∧ SameBox s t ∧ t.eventQueue = s.eventQueue

theorem ProducerFrame_trans {s t u : State} (h : ProducerFrame s t) (k : ProducerFrame t u) : ProducerFrame s u := by
  simp only [ProducerFrame, SameProgramming, SameBox] at *
  simp_all

theorem ProducerFrame_of_savedCore {s t : State} (hc : t.toSavedCore = s.toSavedCore) (hq : t.eventQueue = s.eventQueue) :
    ProducerFrame s t := by
  simp [ProducerFrame, SameProgramming, SameBox, hc, hq]

theorem emit_producerFrame (e : List Event) (s : State) : ProducerFrame s (emit e s) :=
  ProducerFrame_of_savedCore rfl rfl

/-- The CPU side's evaluation applies a change and never defers it, so the queue stays (44_interrupt_evaluator.md R270). -/
theorem evaluate_cpu_eventQueue (s : State) : (evaluate .cpu s).eventQueue = s.eventQueue := by
  obtain ⟨h, -⟩ | ⟨-, -, -, hside, -⟩ | ⟨h, -⟩ := evaluate_cases .cpu s
  · rw [h, evaluateHits_eventQueue]
  · cases hside
  · rw [h, applyTransition_eventQueue, evaluateHits_eventQueue]

theorem evaluate_cpu_producerFrame (s : State) : ProducerFrame s (evaluate .cpu s) := by
  obtain ⟨hprog, -⟩ := evaluate_frame .cpu s
  obtain ⟨hread, hsafe, -, hbox⟩ := evaluate_keeps_consumer_fields .cpu s
  exact ⟨hprog, hread, hsafe, hbox, evaluate_cpu_eventQueue s⟩

theorem burstAdvance_producerFrame (size : U32) (s : State) : ProducerFrame s (burstAdvance size s) := by
  simp [ProducerFrame, SameProgramming, SameBox]

theorem burstPublish_producerFrame (s : State) : ProducerFrame s (burstPublish s) := by
  obtain ⟨-, -, h⟩ | ⟨-, h⟩ := burstPublish_cases s <;> rw [h] <;> exact ProducerFrame_of_savedCore rfl rfl

theorem burstEarlyCheck_producerFrame (s : State) : ProducerFrame s (burstEarlyCheck s) := by
  rw [burstEarlyCheck_eq]
  exact emit_producerFrame _ s

theorem burstAdd_producerFrame (size : U32) (s : State) : ProducerFrame s (burstAdd size s) := by
  simp [ProducerFrame, SameProgramming, SameBox]

theorem burstPostconditions_producerFrame (s : State) : ProducerFrame s (burstPostconditions s) := by
  obtain ⟨hcore, -, -, -, hqueue, -⟩ := burstPostconditions_keeps s
  exact ProducerFrame_of_savedCore hcore hqueue

/-- With nothing inside its flush, an unlinked burst's flush only emits (42_producer_burst.md R232, R233). -/
theorem burstFlush_quiet {s : State} (h : s.interleaved.flush = []) : ∃ e, burstFlush s = emit e s := by
  unfold burstFlush
  split
  · exact ⟨[.flushGpu], by rw [callFlush, h, runConsumer_nil]⟩
  · exact ⟨[], by rw [emit, List.append_nil]⟩

/-- An unlinked burst with nothing inside it evaluates and emits, and does nothing else. -/
theorem burst_unlinked_inside {s : State} (hq : NothingInside s) (size : U32) (hl : s.linkEnabled = false) :
    ∃ e, burst size s = emit e (evaluate .cpu s) := by
  obtain ⟨hbetween, hflush⟩ := hq
  rw [← evaluate_interleaved .cpu s] at hflush
  obtain ⟨e, he⟩ := burstFlush_quiet hflush
  exact ⟨e ++ [.runGpu], by rw [burst_unlinked_quiet hbetween size hl, he, emit, emit, emit, List.append_assoc]⟩

theorem burst_producerFrame {s : State} (hq : NothingInside s) (size : U32) : ProducerFrame s (burst size s) := by
  cases hl : s.linkEnabled with
  | false =>
    obtain ⟨e, he⟩ := burst_unlinked_inside hq size hl
    rw [he]
    exact ProducerFrame_trans (evaluate_cpu_producerFrame s) (emit_producerFrame e _)
  | true =>
    rw [burst_linked_quiet hq.1 size hl]
    exact ProducerFrame_trans (evaluate_cpu_producerFrame s) <| ProducerFrame_trans (burstAdvance_producerFrame size _) <|
      ProducerFrame_trans (burstPublish_producerFrame _) <| ProducerFrame_trans (burstEarlyCheck_producerFrame _) <|
      ProducerFrame_trans (burstAdd_producerFrame size _) <| ProducerFrame_trans (emit_producerFrame _ _)
        (burstPostconditions_producerFrame _)

/-- The two fields that only link mode moves (42_producer_burst.md R232). -/
theorem burst_unlinked_keeps {s : State} (hq : NothingInside s) (size : U32) (hl : s.linkEnabled = false) :
    (burst size s).writePointer = s.writePointer ∧ (burst size s).distance = s.distance := by
  obtain ⟨-, hwrite, -⟩ := evaluate_frame .cpu s
  obtain ⟨-, -, hdist, -⟩ := evaluate_keeps_consumer_fields .cpu s
  obtain ⟨e, he⟩ := burst_unlinked_inside hq size hl
  rw [he, emit_toSavedCore]
  exact ⟨hwrite.symm, hdist⟩

/-! ### The consumer -/

/-- The consumer's operations are those of its port (43_consumer_port.md R250). -/
theorem agent_consumer {i : Instr} (h : i.agent = .consumer) : ∃ op, i = consumerInstr op := by
  cases i with
  | evalGpu => exact ⟨.evalGpu, rfl⟩
  | consRpSet v => exact ⟨.rpSet v, rfl⟩
  | consDistSub n => exact ⟨.distSub n, rfl⟩
  | consSafePublish v => exact ⟨.safePublish v, rfl⟩
  | consBboxSet l r t b => exact ⟨.bboxSet l r t b, rfl⟩
  | _ => cases h

theorem exec_consumerInstr (op : ConsumerOp) (s : State) :
    exec (consumerInstr op) s = whenRunning s (.next (consumerStep op s)) := by
  cases op <;> rfl

/-- In dual-thread mode the consumer defers every change of the line (44_interrupt_evaluator.md R270). -/
theorem consumerStep_dualThread_line {s : State} (hd : s.cfg.dualThread = true) (op : ConsumerOp) :
    (consumerStep op s).interruptAsserted = s.interruptAsserted := by
  cases op with
  | evalGpu =>
    obtain ⟨h, -⟩ | ⟨h, -⟩ | ⟨-, -, -, hside⟩ := evaluate_cases .gpu s
    · rw [consumerStep, h, evaluateHits_interruptAsserted]
    · rw [consumerStep, h, scheduleTransition_interruptAsserted, evaluateHits_interruptAsserted]
    · exact absurd ⟨rfl, hd⟩ hside
  | _ => rfl

/-- In single-thread mode the consumer applies every change of the line, so it defers none (44_interrupt_evaluator.md R270). -/
theorem consumerStep_singleThread_mailbox {s : State} (hd : s.cfg.dualThread = false) (op : ConsumerOp) :
    (s.interruptChangePending = false → (consumerStep op s).interruptChangePending = false) ∧
      (consumerStep op s).eventQueue = s.eventQueue := by
  cases op with
  | evalGpu =>
    obtain ⟨h, -⟩ | ⟨-, -, -, -, hdual⟩ | ⟨h, -⟩ := evaluate_cases .gpu s
    · rw [consumerStep, h]
      exact ⟨id, rfl⟩
    · rw [hd] at hdual
      cases hdual
    · rw [consumerStep, h]
      exact ⟨fun _ => rfl, rfl⟩
  | _ => exact ⟨id, rfl⟩

theorem exec_consumer_frame {i : Instr} {s t : State} (ha : i.agent = .consumer) (h : exec i s = .next t) :
    SameProgramming s t ∧ t.writePointer = s.writePointer ∧ SameLinkState s t ∧ t.fault = s.fault ∧
      (s.cfg.dualThread = true → t.interruptAsserted = s.interruptAsserted) ∧
      (s.cfg.dualThread = false →
        (s.interruptChangePending = false → t.interruptChangePending = false) ∧ t.eventQueue = s.eventQueue) := by
  obtain ⟨op, rfl⟩ := agent_consumer ha
  rw [exec_consumerInstr] at h
  obtain ⟨-, h⟩ := whenRunning_next h
  cases h
  obtain ⟨hprog, hwrite, hlink, hfault, -⟩ := consumerStep_frame op s
  exact ⟨hprog, hwrite.symm, hlink, hfault.symm, fun hd => consumerStep_dualThread_line hd op,
    fun hd => consumerStep_singleThread_mailbox hd op⟩

/-! ### The event facility and the host -/

/-- A delivery takes the head of the queue, ends the change in flight and tells the line (44_interrupt_evaluator.md R273). -/
theorem exec_deliver_frame {s t : State} (h : exec .deliver s = .next t) :
    t.toDescriptor = s.toDescriptor ∧ SameBox s t ∧ t.token = s.token ∧ SameLinkState s t ∧ t.fault = s.fault ∧
      t.interruptChangePending = false ∧ ∃ level, s.eventQueue = level :: t.eventQueue := by
  obtain ⟨-, h⟩ := whenRunning_next h
  obtain ⟨level, rest, hq, rfl⟩ := deliverHead_next h
  exact ⟨rfl, ⟨rfl, rfl, rfl, rfl⟩, rfl, ⟨rfl, rfl, rfl⟩, rfl, rfl, level, hq⟩

theorem exec_snapshotRestore_frame {snap : Snapshot} {s t : State} (h : exec (.snapshotRestore snap) s = .next t) :
    SameLinkState s t ∧ t.fault = s.fault := by
  obtain ⟨-, h⟩ := whenRunning_next h
  cases h
  exact ⟨⟨rfl, rfl, rfl⟩, rfl⟩

/-! ### The table of writers -/

/-- Settles O45, one column of the table of writers at a time. -/
theorem agentsWriteOnlyTheirFields : Obligations.AgentsWriteOnlyTheirFields := by
  intro i s t h hq
  refine ⟨?writes, ?reads, ?burst, ?deliver, fun ha => exec_consumer_frame ha h, ?restore⟩
  case writes =>
    rintro r v rfl
    exact exec_writeInstr_writeFrame hq h
  case reads =>
    rintro r rfl
    exact exec_readInstr_sameTracker h
  case burst =>
    rintro size rfl
    obtain ⟨-, h⟩ := whenRunning_next h
    cases h
    obtain ⟨hprog, hread, hsafe, hbox, hqueue⟩ := burst_producerFrame hq (size.setWidth 32)
    exact ⟨hprog, hread, hsafe, hbox, hqueue, burst_unlinked_keeps hq _⟩
  case deliver =>
    rintro rfl
    exact exec_deliver_frame h
  case restore =>
    rintro snap rfl
    exact exec_snapshotRestore_frame h

end Sys2Proof.Machine
end

section
/-! PROOFS. The register reads (20_memory.md R69, 40_mmio_reads.md): what a read completes with and what it leaves, then the obligations. -/

namespace Sys2Proof.Machine

/-! ### One read -/

theorem busRead_running {s : State} (h : Running s) (v : U16) : busRead v s = .next { s with readData := some v } :=
  whenRunning_running h _

theorem busRead_next {v : U16} {s t : State} (h : busRead v s = .next t) : Running s ∧ t = { s with readData := some v } := by
  obtain ⟨hr, h⟩ := whenRunning_next h
  cases h
  exact ⟨hr, rfl⟩

theorem busRead_repeats {v : U16} {s t : State} (h : busRead v s = .next t) : busRead v t = .next t := by
  obtain ⟨hr, rfl⟩ := busRead_next h
  have hrun : Running { s with readData := some v } := hr
  rw [busRead_running hrun]

theorem busReadFree_next {s t : State} (h : busReadFree s = .next t) :
    Running s ∧ t = { s with readData := some (Config.draw16 s.draws), draws := s.draws + 1 } := by
  obtain ⟨hr, h⟩ := whenRunning_next h
  cases h
  exact ⟨hr, rfl⟩

/-- A value read is an observation beside the hardware, and so is the count of drawn values (20_memory.md R69). -/
theorem observation_sameTracker (s : State) (v : Option U16) (n : Nat) : SameTracker s { s with readData := v, draws := n } :=
  ⟨rfl, rfl, rfl, rfl, rfl, rfl, rfl⟩

/-- Every register but PERF_SELECT reads as a value of the state, which an earlier read does not enter (40_mmio_reads.md R177). -/
theorem exec_readInstr_busRead {r : Reg} (hr : r ≠ .perfSelect) :
    ∃ value : State → U16, (∀ s, exec (readInstr r) s = busRead (value s) s) ∧
      ∀ s v, value { s with readData := v } = value s := by
  cases r with
  | perfSelect => exact absurd rfl hr
  | _ => exact ⟨_, fun _ => rfl, fun _ _ => rfl⟩

/-- A second read of the same register finds what the first left and leaves it (40_mmio_reads.md R177). -/
theorem exec_readInstr_repeats {r : Reg} {s t : State} (hr : r ≠ .perfSelect) (h : exec (readInstr r) s = .next t) :
    exec (readInstr r) t = .next t := by
  obtain ⟨value, hread, hkept⟩ := exec_readInstr_busRead hr
  rw [hread] at h
  have hvalue : value t = value s := by
    obtain ⟨-, rfl⟩ := busRead_next h
    exact hkept s _
  rw [hread, hvalue]
  exact busRead_repeats h

theorem exec_readInstr_out {r : Reg} {s t : State} (h : exec (readInstr r) s = .next t) : t.out = s.out := by
  obtain ⟨-, ⟨-, rfl⟩ | ⟨v, rfl⟩⟩ := exec_readInstr_next h <;> rfl

/-- Settles O12: the registers by their common law, a further pair of METRICS as a read of its constant, an unmapped offset as a drawn
value. -/
theorem readsChangeNothingAndRepeat : Obligations.ReadsChangeNothingAndRepeat := by
  refine ⟨fun r s t h => ?register, fun k s t h => ?metric, fun off s t h => ?unmapped⟩
  case register => exact ⟨exec_readInstr_sameTracker h, exec_readInstr_out h, fun hr => exec_readInstr_repeats hr h⟩
  case metric =>
    have hrepeat := busRead_repeats h
    obtain ⟨-, rfl⟩ := busRead_next h
    exact ⟨observation_sameTracker s _ _, rfl, hrepeat⟩
  case unmapped =>
    obtain ⟨-, rfl⟩ := busReadFree_next h
    exact ⟨observation_sameTracker s _ _, rfl⟩

/-! ### The direct reads -/

/-- A write under the full mask stores every bit, under either setting of `MASKED_WRITE_KEEPS_OLD` (41_mmio_writes.md R185). -/
theorem maskedWrite_freeMask (c : Config) (old v : U16) : maskedWrite c freeMask old v = v := by
  apply BitVec.eq_of_getLsbD_eq
  intro n hn
  have hbit : freeMask.getLsbD n = true := by
    rw [show freeMask = BitVec.allOnes 16 from rfl, BitVec.getLsbD_allOnes, decide_eq_true hn]
  rw [maskedWrite_getLsbD c freeMask old v n hn, if_pos hbit]

theorem exec_wr16Token_stores {v : U16} {s t : State} (h : exec (.wr16Token v) s = .next t) : Running t ∧ t.token = v := by
  obtain ⟨hr, h⟩ := whenRunning_next h
  cases h
  exact ⟨hr, maskedWrite_freeMask _ _ _⟩

theorem exec_tokenAndBoxReads {s : State} (h : Running s) :
    exec .rd16Token s = .next { s with readData := some s.token } ∧
    exec .rd16BboxLeft s = .next { s with readData := some s.bboxLeft } ∧
    exec .rd16BboxRight s = .next { s with readData := some s.bboxRight } ∧
    exec .rd16BboxTop s = .next { s with readData := some s.bboxTop } ∧
    exec .rd16BboxBottom s = .next { s with readData := some s.bboxBottom } :=
  ⟨busRead_running h _, busRead_running h _, busRead_running h _, busRead_running h _, busRead_running h _⟩

/-- Settles O9: the direct reads, then the two examples as the direct reads of the states that the write and RESET leave. -/
theorem tokenAndBoxReadsAreDirect : Obligations.TokenAndBoxReadsAreDirect := by
  refine ⟨fun s hs => exec_tokenAndBoxReads hs, fun s t h => ?written, fun s t h => ?reset, by decide⟩
  case written =>
    obtain ⟨hrun, htoken⟩ := exec_wr16Token_stores h
    obtain ⟨hread, -⟩ := exec_tokenAndBoxReads hrun
    rwa [htoken] at hread
  case reset =>
    cases h
    obtain ⟨-, hbox⟩ := exec_tokenAndBoxReads (resetTracker_fault s)
    exact hbox

/-! ### The halves of the split fields -/

/-- The 32-bit value whose halves the two registers of a split field show (40_mmio_reads.md R139 to R156): only the distance and the read
pointer are not the stored field in every mode. -/
def shownValue (f : SplitField) (s : State) : U32 :=
  match f with
  | .fifoRwDistance => visibleDistance s
  | .fifoReadPointer => visibleReadPointer s
  | f => splitValue f s.toDescriptor

/-- Reads of the two halves of a split field. -/
theorem exec_readHalves {s : State} (h : Running s) (f : SplitField) :
    exec (readInstr (loReg f)) s = .next { s with readData := some (lo16 (shownValue f s)) } ∧
      exec (readInstr (hiReg f)) s = .next { s with readData := some (hi16 (shownValue f s)) } := by
  cases f <;> exact ⟨busRead_running h _, busRead_running h _⟩

/-- Settles O10: the six split fields whose registers show the stored field in both modes. -/
theorem directHalfReadsShowTheField : Obligations.DirectHalfReadsShowTheField := by
  refine ⟨fun s hs => ?_, by decide⟩
  obtain ⟨baseLo, baseHi⟩ := exec_readHalves hs .fifoBase
  obtain ⟨endLo, endHi⟩ := exec_readHalves hs .fifoEnd
  obtain ⟨hiWatermarkLo, hiWatermarkHi⟩ := exec_readHalves hs .fifoHiWatermark
  obtain ⟨loWatermarkLo, loWatermarkHi⟩ := exec_readHalves hs .fifoLoWatermark
  obtain ⟨writePointerLo, writePointerHi⟩ := exec_readHalves hs .fifoWritePointer
  obtain ⟨bpLo, bpHi⟩ := exec_readHalves hs .fifoBp
  exact ⟨baseLo, baseHi, endLo, endHi, hiWatermarkLo, hiWatermarkHi, loWatermarkLo, loWatermarkHi, writePointerLo, writePointerHi,
    bpLo, bpHi⟩

end Sys2Proof.Machine
end

section
/-! PROOFS. The register writes (41_mmio_writes.md): the half writes, TOKEN, the rejected writes. -/

namespace Sys2Proof.Machine

/-! ### Half writes that keep the masked-out bits -/

/-- The low half with `MASKED_WRITE_KEEPS_OLD`, in the words of 41_mmio_writes.md R190: the low five bits are what `loMask` leaves out. -/
theorem writeLo_keeps {c : Config} (h : c.maskedWriteKeepsOld = true) (f : U32) (v : U16) :
    writeLo c f v = f.extractLsb' 16 16 ++ ((f.extractLsb' 0 16 &&& 0x001F#16) ||| (v &&& 0xFFE0#16)) := by
  have hkept : ~~~loMask = 0x001F#16 := by decide
  rw [writeLo, maskedWrite_keeps h, hkept]
  rfl

/-- The high half with `MASKED_WRITE_KEEPS_OLD`, in the words of 41_mmio_writes.md R191. -/
theorem writeHi_keeps {c : Config} (h : c.maskedWriteKeepsOld = true) (f : U32) (v : U16) :
    writeHi c f v = ((f.extractLsb' 16 16 &&& ~~~c.hiMask) ||| (v &&& c.hiMask)) ++ f.extractLsb' 0 16 := by
  rw [writeHi, maskedWrite_keeps h]
  rfl

/-- Settles O13: the statement's two merges are `writeLo` and `writeHi`, which the writes of the two halves of a split field store. -/
theorem halfWritesMergeUnderTheMask : Obligations.HalfWritesMergeUnderTheMask := by
  refine ⟨fun s v hs hkeep lo hi hlo hhi => ?_, by decide⟩
  have hlo : lo = fun f => writeLo s.cfg f v := hlo.trans (funext fun f => (writeLo_keeps hkeep f v).symm)
  have hhi : hi = fun f => writeHi s.cfg f v := hhi.trans (funext fun f => (writeHi_keeps hkeep f v).symm)
  subst hlo hhi
  exact ⟨exec_writeLo hs .fifoBase v, exec_writeHi hs .fifoBase v, exec_writeLo hs .fifoEnd v, exec_writeHi hs .fifoEnd v,
    exec_writeLo hs .fifoHiWatermark v, exec_writeHi hs .fifoHiWatermark v, exec_writeLo hs .fifoLoWatermark v,
    exec_writeHi hs .fifoLoWatermark v, exec_writeLo hs .fifoWritePointer v, exec_writeHi hs .fifoWritePointer v,
    exec_writeLo hs .fifoBp v, exec_writeHi hs .fifoBp v⟩

/-! ### TOKEN -/

theorem exec_wr16Token_running {s : State} (h : Running s) (v : U16) : exec (.wr16Token v) s = .next { s with token := v } := by
  have hstored : exec (.wr16Token v) s = .next { s with token := maskedWrite s.cfg freeMask s.token v } := whenRunning_running h _
  rw [hstored, maskedWrite_freeMask]

/-- Settles O16: TOKEN is written under the full mask. -/
theorem tokenWriteStoresEveryBit : Obligations.TokenWriteStoresEveryBit :=
  ⟨fun _ v hs => exec_wr16Token_running hs v, by decide⟩

/-! ### Rejected and ignored writes -/

theorem busWriteIgnored_running {s : State} (h : Running s) : busWriteIgnored s = .next s :=
  whenRunning_running h _

theorem busWriteIgnored_next {s t : State} (h : busWriteIgnored s = .next t) : t = s := by
  obtain ⟨-, h⟩ := whenRunning_next h
  cases h
  rfl

/-- Settles O17: each of the six is an ignored write, so after a reset the edges read as the reset left them, which is an example of O9. -/
theorem rejectedWritesChangeNothing : Obligations.RejectedWritesChangeNothing := by
  refine ⟨fun s v hs => ?running, fun s t u v h => ?afterReset, by decide⟩
  case running =>
    have hsame := busWriteIgnored_running hs
    exact ⟨hsame, hsame, hsame, hsame, hsame, hsame⟩
  case afterReset =>
    obtain ⟨-, -, hbox, -⟩ := tokenAndBoxReadsAreDirect
    obtain ⟨hleft, hright, htop, hbottom⟩ := hbox s t h
    exact ⟨fun hw => busWriteIgnored_next hw ▸ hleft, fun hw => busWriteIgnored_next hw ▸ hright,
      fun hw => busWriteIgnored_next hw ▸ htop, fun hw => busWriteIgnored_next hw ▸ hbottom⟩

end Sys2Proof.Machine
end

section
/-! PROOFS. The producer's burst (42_producer_burst.md): what it moves with link mode off and on, whatever the consumer side does inside it. -/

namespace Sys2Proof.Machine

theorem exec_burst_running {s : State} (h : Running s) (size : U16) : exec (.burst size) s = .next (burst (size.setWidth 32) s) :=
  whenRunning_running h _

/-! ### Link mode off -/

/-- A run of the consumer's operations by `exec` is the run of the same operations inside another operation (43_consumer_port.md R258). -/
theorem runInstrs_consumer {s : State} (h : Running s) (ops : List ConsumerOp) :
    runInstrs (ops.map consumerInstr) s = .next (runConsumer ops s) := by
  induction ops generalizing s with
  | nil => rfl
  | cons op rest ih =>
    obtain ⟨-, -, -, hfault, -⟩ := consumerStep_frame op s
    have hexec : exec (consumerInstr op) s = .next (consumerStep op s) := (exec_consumerInstr op s).trans (whenRunning_running h _)
    rw [List.map_cons, runInstrs_cons hexec, ih (hfault.symm.trans h), runConsumer]

theorem runInstrs_flush {s : State} (h : Running s) :
    runInstrs (s.interleaved.flush.map consumerInstr) (emit [.flushGpu] s) = .next (callFlush s) :=
  runInstrs_consumer (s := emit [.flushGpu] s) h s.interleaved.flush

/-- Step 2a flushes or does nothing (42_producer_burst.md R233). -/
theorem burstFlush_cases (s : State) :
    (flushForced s = true ∧ burstFlush s = callFlush s) ∨ (flushForced s = false ∧ burstFlush s = s) := by
  unfold burstFlush
  cases flushForced s
  · exact .inr ⟨rfl, rfl⟩
  · exact .inl ⟨rfl, rfl⟩

/-- An unlinked burst emits `RunGpu` last; what comes before it writes only what the evaluator and the consumer side write, and without
operations between the steps is step 1 and step 2a (42_producer_burst.md R232). -/
theorem burst_unlinked_runGpu {s : State} (hl : s.linkEnabled = false) (size : U32) :
    ∃ r, burst size s = emit [.runGpu] r ∧ ConsumerFrame s r ∧ (NothingBetween s → r = burstFlush (evaluate .cpu s)) := by
  refine ⟨_, burst_unlinked hl size, ?frame, fun hb => ?quiet⟩
  case frame =>
    exact ConsumerFrame_trans (evaluate_frame .cpu s) <| ConsumerFrame_trans (between_frame _ _) <|
      ConsumerFrame_trans (burstFlush_frame _) (between_frame _ _)
  case quiet =>
    obtain ⟨hafter1, -⟩ := NothingBetween_gaps hb (evaluate_cfg .cpu s)
    obtain ⟨-, -, -, -, hcfg, -⟩ := ConsumerFrame_trans (evaluate_frame .cpu s) (burstFlush_frame (evaluate .cpu s))
    obtain ⟨-, hafter2a, -⟩ := NothingBetween_gaps hb hcfg.symm
    rw [hafter1, evaluate_interleaved, hafter2a]

/-- Settles O24: the state before `RunGpu` keeps what the consumer side keeps; the flush, where there is one, is a run of `exec`. -/
theorem unlinkedBurstMovesNothing : Obligations.UnlinkedBurstMovesNothing := by
  intro s size hs hl
  obtain ⟨r, hburst, ⟨hprog, hwrite, hlink, hfault, hsurr⟩, hquiet⟩ := burst_unlinked_runGpu hl (size.setWidth 32)
  have hexec : exec (.burst size) s = .next (emit [.runGpu] r) := hburst ▸ exec_burst_running hs size
  refine ⟨r, hexec, hwrite.symm, hlink, hfault.symm.trans hs, hprog, hsurr, fun hb => ?between, fun ⟨hb, hflush⟩ => ?inside⟩
  case between =>
    obtain ⟨-, -, -, hfault1, -⟩ := evaluate_frame .cpu s
    obtain ⟨-, hstep2a⟩ | ⟨-, hstep2a⟩ := burstFlush_cases (evaluate .cpu s)
    · have hrun := runInstrs_flush (s := evaluate .cpu s) (hfault1.symm.trans hs)
      rw [evaluate_interleaved, ← hstep2a, ← hquiet hb] at hrun
      exact .inr hrun
    · exact .inl ((hquiet hb).trans hstep2a)
  case inside =>
    obtain ⟨-, -, hdist, -⟩ := evaluate_keeps_consumer_fields .cpu s
    rw [← evaluate_interleaved .cpu s] at hflush
    obtain ⟨e, he⟩ := burstFlush_quiet hflush
    rw [hquiet hb, he]
    exact ⟨hdist, rfl⟩

/-! ### Link mode on -/

theorem burstPublish_writePointer (s : State) : (burstPublish s).writePointer = s.writePointer := by
  obtain ⟨-, -, h⟩ | ⟨-, h⟩ := burstPublish_cases s <;> rw [h]

/-- The first half of step 3 reads and writes nothing that the consumer side writes. -/
theorem burstAdvance_frame_congr {s t : State} (h : ConsumerFrame s t) (size : U32) :
    ConsumerFrame (burstAdvance size s) (burstAdvance size t) := by
  obtain ⟨hprog, hwrite, hrest⟩ := h
  have ⟨hbase, hend, _⟩ := hprog
  refine ⟨hprog, ?_, hrest⟩
  rw [burstAdvance_writePointer, burstAdvance_writePointer, hbase, hend, hwrite]

/-- The second half publishes what the consumer side does not write (42_producer_burst.md R235). -/
theorem burstPublish_frame_congr {s t : State} (h : ConsumerFrame s t) : ConsumerFrame (burstPublish s) (burstPublish t) := by
  obtain ⟨hprog, hwrite, hlink, hrest⟩ := h
  have ⟨hbase, hend, _, _, _, hlinked, hread, _⟩ := hprog
  unfold burstPublish
  rw [← hlinked, ← hread]
  split
  · exact ⟨hprog, hwrite, ⟨hbase, hend, hwrite⟩, hrest⟩
  · exact ⟨hprog, hwrite, hlink, hrest⟩

/-- Whatever falls inside a linked burst, up to step 7 only what the consumer side and the evaluator write, `distance` and the trace differ
from step 3 of the first state. -/
theorem burst_linked_frame {s : State} (hl : s.linkEnabled = true) (size : U32) :
    ∃ b, ConsumerFrame (burstPublish (burstAdvance size s)) b ∧ burst size s = burstPostconditions b := by
  obtain ⟨b, hframe, hburst⟩ := burstLinked_frame size (between s.interleaved.after2 (between s.interleaved.after1 (evaluate .cpu s)))
  have hstep3 := burstPublish_frame_congr (burstAdvance_frame_congr (burst_start_frame s) size)
  exact ⟨b, ConsumerFrame_trans hstep3 hframe, (burst_linked hl size).trans hburst⟩

/-- Step 7 checks and rolls nothing back, so a linked burst ends with the write pointer and the link state of step 3. -/
theorem burst_linked_keeps_step3 {s : State} (hl : s.linkEnabled = true) (size : U32) :
    (burst size s).writePointer = wrapPointer s.base s.endAddr (s.writePointer + size) ∧
      SameLinkState (burstPublish (burstAdvance size s)) (burst size s) := by
  obtain ⟨b, ⟨-, hwrite, ⟨hbase, hend, hpub⟩, -⟩, hburst⟩ := burst_linked_frame hl size
  obtain ⟨hcore, hkbase, hkend, hkpub, -⟩ := burstPostconditions_keeps b
  rw [hburst, SameLinkState, hcore, hkbase, hkend, hkpub]
  rw [burstPublish_writePointer, burstAdvance_writePointer] at hwrite
  exact ⟨hwrite.symm, hbase, hend, hpub⟩

/-- The link state after a linked burst (42_producer_burst.md R235). -/
theorem burst_linked_linkState {s : State} (hl : s.linkEnabled = true) (size : U32) :
    (s.readEnabled = true → (burst size s).linkBase = s.base ∧ (burst size s).linkEnd = s.endAddr ∧
      (burst size s).linkWritePointer = (burst size s).writePointer) ∧
    (s.readEnabled = false → SameLinkState s (burst size s)) := by
  obtain ⟨hwrite, hlink⟩ := burst_linked_keeps_step3 hl size
  obtain ⟨-, hread, h⟩ | ⟨hoff, h⟩ := burstPublish_cases (burstAdvance size s) <;> rw [h] at hlink
  case inl =>
    obtain ⟨hbase, hend, hpub⟩ := hlink
    exact ⟨fun _ => ⟨hbase.symm, hend.symm, hpub.symm.trans hwrite.symm⟩, fun hn => absurd hread (by simp [hn])⟩
  case inr =>
    exact ⟨fun hread => absurd ⟨hl, hread⟩ hoff, fun _ => hlink⟩

/-- Settles O26: `wrapPointer` decides on equality with the end, and the link state is that of step 3. -/
theorem linkedBurstAdvancesWrapsAndPublishes : Obligations.LinkedBurstAdvancesWrapsAndPublishes := by
  intro s size hs hl
  obtain ⟨hwrite, -⟩ := burst_linked_keeps_step3 hl (size.setWidth 32)
  exact ⟨_, exec_burst_running hs size, fun heq => hwrite.trans (if_pos heq), fun hne => hwrite.trans (if_neg hne),
    burst_linked_linkState hl (size.setWidth 32)⟩

end Sys2Proof.Machine
end

section
/-! PROOFS. The interrupt evaluator (44_interrupt_evaluator.md): the comparators, then an evaluation by the branch it takes. -/

namespace Sys2Proof.Machine

/-! ### The comparators -/

/-- The hit flags as an evaluation from either side leaves them, with the comparators as relations on words (44_interrupt_evaluator.md R266
to R268). -/
theorem evaluate_hits (side : Side) (s : State) :
    (evaluate side s).breakpointHit = (s.breakpointEnabled && decide (s.readPointer = s.breakpoint)) ∧
    (evaluate side s).hiWatermarkHit = decide (s.hiWatermark < s.distance) ∧
    (evaluate side s).loWatermarkHit = decide (s.distance < s.loWatermark) := by
  rw [evaluate_toDescriptor]
  exact ⟨rfl, rfl, rfl⟩

theorem exec_evalGpu_running {s : State} (h : Running s) : exec .evalGpu s = .next (evaluate .gpu s) :=
  whenRunning_running h _

/-- Settles O34. -/
theorem evaluationRewritesTheHitFlags : Obligations.EvaluationRewritesTheHitFlags :=
  ⟨evaluate_hits, fun _ hs => exec_evalGpu_running hs⟩

/-! ### The line -/

/-- Settles O36: the statement writes out the three fields that the definition gives a value. -/
theorem applyingATransitionSetsTheLatchAndTellsTheSink : Obligations.ApplyingATransitionSetsTheLatchAndTellsTheSink :=
  fun _ _ => rfl

/-- With nothing in flight, applying a transition moves the latch and the trace only. -/
theorem applyTransition_notPending {s : State} (hp : s.interruptChangePending = false) (level : Bool) :
    applyTransition level s = { s with
      interruptAsserted := level, out := s.out ++ [.setInterrupt s.cfg.irqCause level, .excCheck, .runGpu] } := by
  rw [applyTransition, ← hp]

/-! ### An evaluation by its branch (44_interrupt_evaluator.md R270) -/

section Branches

variable {s : State}

/-- With the line as the condition says, or a change in flight, an evaluation rewrites the hit flags and nothing else. -/
theorem evaluate_settled (side : Side)
    (h : compositeCondition (refreshHits s.toDescriptor) = s.interruptAsserted ∨ s.interruptChangePending = true) :
    evaluate side s = evaluateHits s := by
  obtain ⟨heval, -⟩ | ⟨-, hne, hp, -⟩ | ⟨-, hne, hp, -⟩ := evaluate_cases side s
  · exact heval
  all_goals exact absurd h (by simp [hne, hp])

/-- In dual-thread mode the consumer side defers a change of the line. -/
theorem evaluate_gpu_defers (hne : compositeCondition (refreshHits s.toDescriptor) ≠ s.interruptAsserted)
    (hp : s.interruptChangePending = false) (hd : s.cfg.dualThread = true) :
    evaluate .gpu s = scheduleTransition (compositeCondition (refreshHits s.toDescriptor)) (evaluateHits s) := by
  obtain ⟨-, h⟩ | ⟨heval, -⟩ | ⟨-, -, -, hside⟩ := evaluate_cases .gpu s
  · exact absurd h (by simp [hne, hp])
  · exact heval
  · exact absurd ⟨rfl, hd⟩ hside

/-- The CPU side, and the consumer side in single-thread mode, apply a change of the line. -/
theorem evaluate_applies {side : Side} (hne : compositeCondition (refreshHits s.toDescriptor) ≠ s.interruptAsserted)
    (hp : s.interruptChangePending = false) (hside : ¬(side = .gpu ∧ s.cfg.dualThread = true)) :
    evaluate side s = applyTransition (compositeCondition (refreshHits s.toDescriptor)) (evaluateHits s) := by
  obtain ⟨-, h⟩ | ⟨-, -, -, hdefer⟩ | ⟨heval, -⟩ := evaluate_cases side s
  · exact absurd h (by simp [hne, hp])
  · exact absurd hdefer hside
  · exact heval

end Branches

/-- Settles O35: the statement's condition is the composite condition on the rewritten flags and its `r` the state with those flags, so each
clause is a branch of the evaluation. -/
theorem evalGpuDefersOrApplies : Obligations.EvalGpuDefersOrApplies := by
  intro s hs bp hi lo cond r hbp hhi hlo hcond hr
  subst hbp hhi hlo
  have hcond : cond = compositeCondition (refreshHits s.toDescriptor) := hcond
  have hr : r = evaluateHits s := hr
  subst hcond hr
  rw [exec_evalGpu_running hs]
  refine ⟨fun h => ?settled, fun hne hp hd => ?defers, fun hne hp hd => ?applies, fun hne hp => ?cpu⟩
  case settled => exact ⟨by rw [evaluate_settled .gpu h], evaluate_settled .cpu h⟩
  case defers =>
    rw [evaluate_gpu_defers hne hp hd]
    rfl
  case applies =>
    rw [evaluate_applies hne hp (by simp [hd]), applyTransition_notPending (s := evaluateHits s) hp]
    rfl
  case cpu =>
    rw [evaluate_applies hne hp (by simp), applyTransition_notPending (s := evaluateHits s) hp]
    rfl

end Sys2Proof.Machine
end

section
/-! PROOFS. The snapshot operations (45_snapshot.md): what SNAPSHOT_SAVE completes with, and what it takes of the reset state. -/

namespace Sys2Proof.Machine

/-- A save adds the pair to the observations and touches nothing else (45_snapshot.md R287). -/
theorem exec_snapshotSave_running {s : State} (h : Running s) :
    exec .snapshotSave s = .next { s with saved := some (takeSnapshot s) } :=
  whenRunning_running h _

theorem exec_snapshotSave_next {s t : State} (h : exec .snapshotSave s = .next t) :
    Running s ∧ t = { s with saved := some (takeSnapshot s) } := by
  obtain ⟨hr, h⟩ := whenRunning_next h
  cases h
  exact ⟨hr, rfl⟩

/-- What is saved right after a reset depends on the configuration at most, not on the state that was reset (10_state.md R56). -/
theorem takeSnapshot_resetTracker (s : State) : takeSnapshot (resetTracker s) = takeSnapshot (State.resetOf s.cfg) := by
  rw [takeSnapshot, resetTracker_toSavedCore, resetTracker_eventQueue]
  rfl

/-- Settles O47: a save records `takeSnapshot` of the state it runs in, and the reset state is a literal, so the tuple of the example is read
off it under every configuration. -/
theorem snapshotSaveYieldsCoreAndQueue : Obligations.SnapshotSaveYieldsCoreAndQueue := by
  refine ⟨fun s hs => exec_snapshotSave_running hs, fun s t u hreset hsave => ?afterReset⟩
  case afterReset =>
    cases hreset
    obtain ⟨-, rfl⟩ := exec_snapshotSave_next hsave
    exact congrArg some (takeSnapshot_resetTracker s)

end Sys2Proof.Machine
end

section
/-! PROOFS. What every operation keeps: one law with a field for each thing an operation can do beside storing data, the induction over the
operations and what falls inside them packaged once, then the line, the mailbox, the published pointer, the fault and
the configuration as cases of it. -/

namespace Sys2Proof.Machine

/-! ### Steps that only store data -/

/-- What a step that only stores data leaves: the latch pair and the queue, the trace, the published read pointer, the fault, the
configuration and the issued operations. -/
def SameSignals (s t : State) : Prop :=
  SameMailbox s t ∧ s.out = t.out ∧ s.safeReadPointer = t.safeReadPointer ∧ s.fault = t.fault ∧ s.cfg = t.cfg ∧ s.issued = t.issued

theorem SameSignals_refl (s : State) : SameSignals s s :=
  ⟨⟨rfl, rfl, rfl⟩, rfl, rfl, rfl, rfl, rfl⟩

/-- A read changes what was observed only (20_memory.md R69). -/
theorem exec_readInstr_sameSignals {r : Reg} {s t : State} (h : exec (readInstr r) s = .next t) : SameSignals s t := by
  obtain ⟨-, ⟨-, rfl⟩ | ⟨v, rfl⟩⟩ := exec_readInstr_next h <;> exact SameSignals_refl s

/-- A register write other than CONTROL stores into one field, which is none of these. -/
theorem exec_writeInstr_sameSignals {r : Reg} {v : U16} {s t : State} (h : exec (writeInstr r v) s = .next t) :
    (r = .control ∧ t = controlWrite v s) ∨ SameSignals s t := by
  obtain ⟨-, hcontrol | ⟨-, rfl⟩ | ⟨f, x, -, rfl⟩ | rfl⟩ := exec_writeInstr_next h
  · exact .inl hcontrol
  · exact .inr (SameSignals_refl s)
  · exact .inr (by cases f <;> exact SameSignals_refl s)
  · exact .inr (SameSignals_refl _)

theorem burstPublish_sameSignals (s : State) : SameSignals s (burstPublish s) := by
  obtain ⟨-, -, h⟩ | ⟨-, h⟩ := burstPublish_cases s <;> rw [h] <;> exact SameSignals_refl s

/-! ### The law and the induction -/

/-- What a predicate has to survive for the operation `i`, started in `s`, to keep it: steps that store data, the evaluator, events that
tell the line nothing, and each further effect only where `i`, or what falls inside it, has that effect. -/
structure KeptBy (i : Instr) (s : State) (P : State → Prop) : Prop where
  stores : ∀ x y, SameSignals x y → P x → P y
  evaluates : ∀ side x, P x → P (evaluate side x)
  emits : ∀ e x, lastLevel e = none → P x → P (emit e x)
  publishes : ∀ v, (i = .consSafePublish v ∨ .safePublish v ∈ s.interleaved.ops) → ∀ x, P x → P (publishSafe v x)
  raises : ∀ size, i = .burst size → ∀ reason x, P x → P (raiseFatal reason x)
  delivers : i = .deliver → ∀ x level rest, x.eventQueue = level :: rest → P x →
    P (applyTransition level { x with eventQueue := rest })
  restores : ∀ snap, i = .snapshotRestore snap → ∀ x, P x → P (installSnapshot snap x)
  resets : i = .reset → ∀ x, P x → P (resetTracker x)

/-- Of the consumer-side operations only the publication and the evaluation do more than store data. -/
theorem consumerStep_keeps {P : State → Prop} {op : ConsumerOp} (hstore : ∀ x y, SameSignals x y → P x → P y)
    (heval : ∀ x, P x → P (evaluate .gpu x)) (hpub : ∀ v, op = .safePublish v → ∀ x, P x → P (publishSafe v x)) (x : State) (h : P x) :
    P (consumerStep op x) := by
  cases op with
  | evalGpu => exact heval x h
  | safePublish v => exact hpub v rfl x h
  | _ => exact hstore x _ (SameSignals_refl x) h

/-- The consumer-side operations inside an operation keep what the operation keeps. -/
theorem KeptBy.inside {i : Instr} {s : State} {P : State → Prop} (law : KeptBy i s P) (op : ConsumerOp)
    (hop : op ∈ s.interleaved.ops) (x : State) (h : P x) : P (consumerStep op x) :=
  consumerStep_keeps law.stores (law.evaluates .gpu) (fun v hv => law.publishes v (.inr (hv ▸ hop))) x h

theorem KeptBy.burst {size : U16} {s : State} {P : State → Prop} (law : KeptBy (.burst size) s P) (h : P s) :
    P (Machine.burst (size.setWidth 32) s) :=
  burst_keeps P _ s law.inside (law.evaluates .cpu) law.emits (fun x hx => law.stores x _ (SameSignals_refl x) hx)
    (fun x hx => law.stores x _ (burstPublish_sameSignals x) hx) (fun x hx => law.stores x _ (SameSignals_refl x) hx)
    (law.raises size rfl) h

theorem KeptBy.controlWrite {i : Instr} {s : State} {P : State → Prop} (law : KeptBy i s P) (v : U16) (h : P s) :
    P (Machine.controlWrite v s) :=
  controlWrite_keeps P v s law.inside (fun x hx => law.stores x _ (SameSignals_refl x) hx) (fun x hx => law.emits _ x rfl hx)
    (fun x hx => law.stores x _ (SameSignals_refl x) hx) h

/-- An operation that answers a next state keeps every predicate that survives what it can do. -/
theorem exec_keeps {i : Instr} {s t : State} {P : State → Prop} (law : KeptBy i s P) (h : exec i s = .next t) (hs : P s) : P t := by
  have hnext : ∀ x, whenRunning s (.next x) = .next t → x = t := fun x hx => by simpa using (whenRunning_next hx).2
  obtain ⟨r, rfl⟩ | ⟨r, v, rfl⟩ | ⟨size, rfl⟩ | rfl | rfl | ⟨v, rfl⟩ | ⟨n, rfl⟩ | ⟨v, rfl⟩ | ⟨l, r, u, b, rfl⟩ | rfl |
    ⟨snap, rfl⟩ | rfl := instr_families i
  · exact law.stores s t (exec_readInstr_sameSignals h) hs
  · obtain ⟨-, rfl⟩ | hsame := exec_writeInstr_sameSignals h
    · exact law.controlWrite v hs
    · exact law.stores s t hsame hs
  · exact hnext _ h ▸ law.burst hs
  · exact hnext _ h ▸ law.evaluates .gpu s hs
  · obtain ⟨level, rest, hq, rfl⟩ := deliverHead_next (whenRunning_next h).2
    exact law.delivers rfl s level rest hq hs
  · exact hnext _ h ▸ law.stores s _ (SameSignals_refl s) hs
  · exact hnext _ h ▸ law.stores s _ (SameSignals_refl s) hs
  · exact hnext _ h ▸ law.publishes v (.inl rfl) s hs
  · exact hnext _ h ▸ law.stores s _ (SameSignals_refl s) hs
  · exact hnext _ h ▸ law.stores s _ (SameSignals_refl s) hs
  · exact hnext _ h ▸ law.restores snap rfl s hs
  · cases h
    exact law.resets rfl s hs

/-! ### The line and the sink -/

/-- Since `s` the trace only grew, and the line is the last level it told, or what it was. -/
def LineToldSince (s t : State) : Prop :=
  ∃ new, t.out = s.out ++ new ∧ t.interruptAsserted = (lastLevel new).getD s.interruptAsserted

theorem LineToldSince_refl (s : State) : LineToldSince s s := ⟨[], by simp, rfl⟩

theorem LineToldSince_trans {s t u : State} (h : LineToldSince s t) (k : LineToldSince t u) : LineToldSince s u := by
  obtain ⟨new, hout, hline⟩ := h
  obtain ⟨new', hout', hline'⟩ := k
  refine ⟨new ++ new', by rw [hout', hout, List.append_assoc], ?_⟩
  rw [hline', hline, lastLevel_append]
  cases lastLevel new' <;> rfl

/-- Events that tell the line nothing, emitted with the line as it was. -/
theorem LineToldSince_silent {s t : State} {e : List Event} (he : lastLevel e = none) (hout : t.out = s.out ++ e)
    (hline : t.interruptAsserted = s.interruptAsserted) : LineToldSince s t :=
  ⟨e, hout, by rw [he, hline]; rfl⟩

/-- An applied transition tells the sink the level it stores (44_interrupt_evaluator.md R272). -/
theorem applyTransition_told (level : Bool) (s : State) : LineToldSince s (applyTransition level s) :=
  ⟨_, rfl, rfl⟩

/-- A deferred change tells the sink nothing and leaves the line (44_interrupt_evaluator.md R270). -/
theorem evaluate_told (side : Side) (s : State) : LineToldSince s (evaluate side s) := by
  obtain ⟨h, -⟩ | ⟨h, -⟩ | ⟨h, -⟩ := evaluate_cases side s <;> rw [h]
  · exact LineToldSince_refl s
  · exact LineToldSince_silent (e := [.schedule _]) rfl rfl rfl
  · exact applyTransition_told _ (evaluateHits s)

/-- Settles O43: every effect of an operation other than RESET and SNAPSHOT_RESTORE tells the sink what it stores in the line. -/
theorem lineFollowsTheSink : Obligations.LineFollowsTheSink := by
  intro i s t h hreset hrestore
  refine exec_keeps (P := LineToldSince s) ?law h (LineToldSince_refl s)
  exact
    { stores := fun x y ⟨⟨hline, _⟩, hout, _⟩ hx =>
        LineToldSince_trans hx (LineToldSince_silent (e := []) rfl (by rw [← hout, List.append_nil]) hline.symm)
      evaluates := fun side x hx => LineToldSince_trans hx (evaluate_told side x)
      emits := fun e x he hx => LineToldSince_trans hx (LineToldSince_silent he rfl rfl)
      publishes := fun v _ x hx => LineToldSince_trans hx (LineToldSince_refl x)
      raises := fun _ _ reason x hx =>
        LineToldSince_trans hx (LineToldSince_silent (e := [.fatal reason x.toDescriptor]) rfl rfl rfl)
      delivers := fun _ x level rest _ hx => LineToldSince_trans hx (applyTransition_told level { x with eventQueue := rest })
      restores := fun snap hi => absurd hi (hrestore snap)
      resets := fun hi => absurd hi hreset }

/-! ### The configuration and the issued operations -/

theorem evaluate_issued (side : Side) (s : State) : (evaluate side s).issued = s.issued := by
  obtain ⟨-, -, -, -, -, -, -, -, -, -, hissued⟩ := evaluate_frame side s
  exact hissued.symm

theorem exec_keeps_cfg_issued {i : Instr} {s t : State} (h : exec i s = .next t) : t.cfg = s.cfg ∧ t.issued = s.issued := by
  refine exec_keeps (P := fun x => x.cfg = s.cfg ∧ x.issued = s.issued) ?law h ⟨rfl, rfl⟩
  exact
    { stores := fun x y ⟨_, _, _, _, hcfg, hissued⟩ ⟨hc, hi⟩ => ⟨hcfg.symm.trans hc, hissued.symm.trans hi⟩
      evaluates := fun side x ⟨hc, hi⟩ => ⟨(evaluate_cfg side x).trans hc, (evaluate_issued side x).trans hi⟩
      emits := fun _ _ _ hx => hx
      publishes := fun _ _ _ hx => hx
      raises := fun _ _ _ _ hx => hx
      delivers := fun _ _ _ _ _ hx => hx
      restores := fun _ _ _ hx => hx
      resets := fun _ _ hx => hx }

/-- A step is nothing, an instruction on the state that has taken it from the list, or an access with no row of the table, which stores
nothing in the tracker. -/
theorem step_next {s t : State} (h : step s = .next t) :
    t = s ∨ ∃ op rest, s.issued = op :: rest ∧
      ((∃ i, decode s.cfg op.word op.beside = .ok (.instr i) ∧ exec i (acceptIssued op rest s) = .next t) ∨
        SameSignals (acceptIssued op rest s) t) := by
  obtain ⟨-, hsame⟩ | ⟨op, rest, hissued, hinstr | ⟨k, h⟩ | ⟨v, h⟩ | ⟨off, h⟩ | ⟨off, v, h⟩⟩ := step_cases h
  · exact .inl hsame
  · exact .inr ⟨op, rest, hissued, .inl hinstr⟩
  all_goals
    obtain ⟨-, h⟩ := whenRunning_next h
    cases h
    exact .inr ⟨op, rest, hissued, .inr (SameSignals_refl _)⟩

/-- Settles O52. -/
theorem everyStepKeepsTheConfiguration : Obligations.EveryStepKeepsTheConfiguration := by
  intro s t h
  obtain rfl | ⟨op, rest, -, ⟨i, -, hexec⟩ | ⟨-, -, -, -, hcfg, -⟩⟩ := step_next h
  · rfl
  · exact (exec_keeps_cfg_issued hexec).1
  · exact hcfg.symm

/-! ### The mailbox -/

/-- The mailbox invariant by what is in flight (44_interrupt_evaluator.md R275). -/
theorem Mailbox_iff (s : State) :
    Mailbox s ↔
      (s.interruptChangePending = false ∧ s.eventQueue = []) ∨
        (s.interruptChangePending = true ∧ s.eventQueue = [!s.interruptAsserted] ∧ s.cfg.dualThread = true) := by
  unfold Mailbox mailboxAgrees
  cases s.interruptChangePending <;> simp

theorem Mailbox_sameSignals {s t : State} (h : SameSignals s t) (hs : Mailbox s) : Mailbox t := by
  obtain ⟨⟨hline, hpending, hqueue⟩, -, -, -, hcfg, -⟩ := h
  unfold Mailbox
  rw [← hline, ← hpending, ← hqueue, ← hcfg]
  exact hs

/-- A change is deferred only with nothing in flight, in dual-thread mode, and is the opposite of the line. -/
theorem Mailbox_evaluate (side : Side) {s : State} (hs : Mailbox s) : Mailbox (evaluate side s) := by
  obtain ⟨h, -⟩ | ⟨h, hne, hpending, -, hdual⟩ | ⟨h, -, hpending, -⟩ := evaluate_cases side s <;> rw [h]
  · exact hs
  all_goals
    obtain ⟨-, hqueue⟩ | ⟨hp, -⟩ := (Mailbox_iff s).mp hs
    case inr => exact absurd (hp.symm.trans hpending) (by decide)
  case inr.inl.inl =>
    refine (Mailbox_iff _).mpr (.inr ⟨rfl, ?_, hdual⟩)
    rw [scheduleTransition_eventQueue, evaluateHits_eventQueue, hqueue, List.nil_append, scheduleTransition_interruptAsserted,
      evaluateHits_interruptAsserted, Bool.eq_not_iff.mpr hne]
  case inr.inr.inl => exact (Mailbox_iff _).mpr (.inl ⟨rfl, hqueue⟩)

/-- The queue holds one level at most, so a delivery empties it. -/
theorem Mailbox_deliver {s : State} {level : Bool} {rest : List Bool} (hq : s.eventQueue = level :: rest) (hs : Mailbox s) :
    Mailbox (applyTransition level { s with eventQueue := rest }) := by
  obtain ⟨-, hqueue⟩ | ⟨-, hqueue, -⟩ := (Mailbox_iff s).mp hs <;> rw [hq] at hqueue
  · cases hqueue
  · exact (Mailbox_iff _).mpr (.inl ⟨rfl, (List.cons.inj hqueue).2⟩)

theorem Mailbox_restore {snap : Snapshot} {s : State} (h : snapshotAgrees s.cfg.dualThread snap = true) :
    Mailbox (installSnapshot snap s) := by
  simp only [snapshotAgrees, Bool.and_eq_true, Bool.or_eq_true, Bool.not_eq_true'] at h
  obtain ⟨hagrees, hmode⟩ := h
  exact ⟨hagrees, fun hsingle => hmode.resolve_left (by simp only [installSnapshot_cfg] at hsingle; simp [hsingle])⟩

/-- The snapshot of a restore is the operand beside its word (30_encoding.md R93). -/
theorem decode_snapshotRestore {c : Config} {w : U32} {beside : Beside} {snap : Snapshot}
    (h : decode c w beside = .ok (.instr (.snapshotRestore snap))) : beside = .snapshot snap := by
  obtain ⟨-, -, hsel, i, hi, hport⟩ | ⟨-, -, -, -, -, haccess⟩ := decode_ok h
  · cases hi
    have hform := portEvent_form hsel hport
    simp only [Instr.form, Form.port.injEq] at hform
    obtain ⟨-, -, hbeside⟩ := hform
    exact hbeside.symm
  · obtain ⟨r, -, hop⟩ | ⟨k, -, -, hop⟩ | ⟨-, -, hop⟩ := haccess
    · have hform : Form.port _ _ _ = _ := congrArg Instr.form (Operation.instr.inj hop)
      split at hform
      · rw [readInstr_form] at hform; cases hform
      · rw [writeInstr_form] at hform; cases hform
    all_goals split at hop <;> cases hop

/-- An operation keeps the mailbox invariant if the snapshot it restores, where it restores one, was taken from a state that had it; the
configuration is carried along because the single-thread clause depends on it. -/
theorem exec_keeps_mailbox {i : Instr} {s t : State} (h : exec i s = .next t) (hs : Mailbox s)
    (hsnap : ∀ snap, i = .snapshotRestore snap → snapshotAgrees s.cfg.dualThread snap = true) : Mailbox t := by
  refine (exec_keeps (P := fun x => x.cfg = s.cfg ∧ Mailbox x) ?law h ⟨rfl, hs⟩).2
  exact
    { stores := fun x y hsame ⟨hc, hx⟩ =>
        have ⟨_, _, _, _, hcfg, _⟩ := hsame
        ⟨hcfg.symm.trans hc, Mailbox_sameSignals hsame hx⟩
      evaluates := fun side x ⟨hc, hx⟩ => ⟨(evaluate_cfg side x).trans hc, Mailbox_evaluate side hx⟩
      emits := fun _ _ _ hx => hx
      publishes := fun _ _ _ hx => hx
      raises := fun _ _ _ _ hx => hx
      delivers := fun _ _ _ _ hq ⟨hc, hx⟩ => ⟨hc, Mailbox_deliver hq hx⟩
      restores := fun snap hi x ⟨hc, _⟩ => ⟨hc, Mailbox_restore (hc ▸ hsnap snap hi)⟩
      resets := fun _ _ ⟨hc, _⟩ => ⟨hc, rfl, fun _ => rfl⟩ }

theorem IssuedAgree_tail {s t : State} {op : Issued} {rest : List Issued} (hissued : s.issued = op :: rest) (hi : t.issued = rest)
    (hc : t.cfg = s.cfg) (hs : IssuedAgree s) : IssuedAgree t := by
  intro op' hop
  rw [hi] at hop
  rw [hc]
  exact hs op' (hissued ▸ List.mem_cons_of_mem op hop)

/-- Settles O53: a step performs an operation on the state that has taken it, whose snapshot is among those that agree. -/
theorem everyStepKeepsTheMailbox : Obligations.EveryStepKeepsTheMailbox := by
  intro s t h hs hagree
  obtain rfl | ⟨op, rest, hissued, ⟨i, hdecode, hexec⟩ | hsame⟩ := step_next h
  · exact ⟨hs, hagree⟩
  · obtain ⟨hcfg, hrest⟩ := exec_keeps_cfg_issued hexec
    refine ⟨exec_keeps_mailbox hexec hs ?_, IssuedAgree_tail hissued hrest hcfg hagree⟩
    rintro snap rfl
    exact hagree op (hissued ▸ List.mem_cons_self) snap (decode_snapshotRestore hdecode)
  · have ⟨_, _, _, _, hcfg, hrest⟩ := hsame
    exact ⟨Mailbox_sameSignals hsame hs, IssuedAgree_tail hissued hrest.symm hcfg.symm hagree⟩

/-- Settles O54. -/
theorem resetHasTheMailbox : Obligations.ResetHasTheMailbox :=
  fun _ => ⟨⟨rfl, fun _ => rfl⟩, fun _ hop => absurd hop List.not_mem_nil⟩

/-! ### The published read pointer -/

theorem evaluate_safeReadPointer (side : Side) (s : State) : (evaluate side s).safeReadPointer = s.safeReadPointer := by
  obtain ⟨-, hsafe, -⟩ := evaluate_keeps_consumer_fields side s
  exact hsafe

/-- Settles O46: of what an operation can do, only a publication, a restore and a reset store the safe read pointer. -/
theorem onlyPublishingMovesTheSafePointer : Obligations.OnlyPublishingMovesTheSafePointer := by
  intro i s t h hinside hpublish hrestore hreset
  refine exec_keeps (P := fun x => x.safeReadPointer = s.safeReadPointer) ?law h rfl
  exact
    { stores := fun x y ⟨_, _, hsafe, _⟩ hx => hsafe.symm.trans hx
      evaluates := fun side x hx => (evaluate_safeReadPointer side x).trans hx
      emits := fun _ _ _ hx => hx
      publishes := fun v hv => absurd hv (not_or.mpr ⟨hpublish v, hinside v⟩)
      raises := fun _ _ _ _ hx => hx
      delivers := fun _ _ _ _ _ hx => hx
      restores := fun snap hi => absurd hi (hrestore snap)
      resets := fun hi => absurd hi hreset }

/-! ### The fatal conditions -/

theorem evaluate_fault (side : Side) (s : State) : (evaluate side s).fault = s.fault := by
  obtain ⟨-, -, -, hfault, -⟩ := evaluate_frame side s
  exact hfault.symm

/-- Every operation but RESET is guarded (60_exceptions.md R297). -/
theorem exec_halted {i : Instr} {s : State} {reason : FatalReason} (hi : i ≠ .reset) (h : s.fault = some reason) :
    exec i s = .refused (.halted reason) := by
  cases i with
  | reset => exact absurd rfl hi
  | _ => exact whenRunning_halted h _

/-- Settles O50. -/
theorem haltedTrackerRefusesAllButReset : Obligations.HaltedTrackerRefusesAllButReset :=
  fun _ _ h => ⟨fun _ hi => exec_halted hi h, fun _ => whenRunning_halted h _, fun _ => whenRunning_halted h _,
    fun _ => whenRunning_halted h _, fun _ _ => whenRunning_halted h _⟩

/-- An operation other than a burst records no fatal condition. -/
theorem exec_keeps_running {i : Instr} {s t : State} (hi : ∀ size, i ≠ .burst size) (h : exec i s = .next t) (hs : Running s) :
    Running t := by
  refine exec_keeps (P := Running) ?law h hs
  exact
    { stores := fun x y ⟨_, _, _, hfault, _⟩ hx => hfault.symm.trans hx
      evaluates := fun side x hx => (evaluate_fault side x).trans hx
      emits := fun _ _ _ hx => hx
      publishes := fun _ _ _ hx => hx
      raises := fun size hburst => absurd hburst (hi size)
      delivers := fun _ _ _ _ _ hx => hx
      restores := fun _ _ _ hx => hx
      resets := fun _ _ _ => rfl }

/-- A halted tracker answers a next state to RESET only. -/
theorem exec_next_of_halted {i : Instr} {s t : State} {reason : FatalReason} (h : exec i s = .next t) (hs : s.fault = some reason) :
    i = .reset ∧ t.fault = none := by
  by_cases hi : i = .reset
  · subst hi
    cases h
    exact ⟨rfl, rfl⟩
  · rw [exec_halted hi hs] at h
    cases h

/-- Settles O51. -/
theorem onlyABurstRaisesAFault : Obligations.OnlyABurstRaisesAFault := by
  intro i s t reason h
  refine ⟨fun hfault => ?raised, exec_next_of_halted h⟩
  case raised =>
    have hs : s.fault = none := by
      cases hfs : s.fault with
      | none => rfl
      | some r => exact absurd ((exec_next_of_halted h hfs).2.symm.trans hfault) (by simp)
    refine ⟨hs, by_contra fun hburst => ?_⟩
    have ht : t.fault = none := exec_keeps_running (not_exists.mp hburst) h hs
    exact absurd (ht.symm.trans hfault) (by simp)

end Sys2Proof.Machine
end

section
/-! PROOFS. The encoding (30_encoding.md): decode after encode, encode after decode, the rejected words, and the step that performs what a
word spells. -/

namespace Sys2Proof

/-! ### Decoding what was encoded -/

/-- The selector and the operands that the form of a port event carries are the ones its word is decoded by; only a burst has data. -/
theorem portEvent_of_form {i : Instr} {sel : BitVec 4} {data : U16} {beside : Beside} (h : i.form = .port sel data beside) :
    portEvent sel data beside = .ok i ∧ (data = 0#16 ∨ sel = 0#4) := by
  cases i with
  | burst size => cases h; exact ⟨rfl, .inr rfl⟩
  | evalGpu => cases h; exact ⟨rfl, .inl rfl⟩
  | deliver => cases h; exact ⟨rfl, .inl rfl⟩
  | consRpSet v => cases h; exact ⟨rfl, .inl rfl⟩
  | consDistSub n => cases h; exact ⟨rfl, .inl rfl⟩
  | consSafePublish v => cases h; exact ⟨rfl, .inl rfl⟩
  | consBboxSet l r t b => cases h; exact ⟨rfl, .inl rfl⟩
  | snapshotSave => cases h; exact ⟨rfl, .inl rfl⟩
  | snapshotRestore snap => cases h; exact ⟨rfl, .inl rfl⟩
  | reset => cases h; exact ⟨rfl, .inl rfl⟩
  | _ => cases h

/-- A port event's word decodes to what its selector, data and operands spell. -/
theorem decode_portWord {c : Config} {sel : BitVec 4} {data : U16} {beside : Beside} {i : Instr} (hd : data = 0#16 ∨ sel = 0#4)
    (h : portEvent sel data beside = .ok i) : decode c (mkWord 0x2#4 sel 0#8 data) beside = .ok (.instr i) := by
  have hdata : ¬(data ≠ 0#16 ∧ sel ≠ 0#4) := fun ⟨hn, hs⟩ => hd.elim hn hs
  simp [decode, hdata, h]

/-- What an access to an even offset spells: the register there, a further metric, or nothing mapped (30_encoding.md R106). -/
def accessSpells (c : Config) (off : U8) (register : Reg → Instr) (metric : U16 → Operation) (unmapped : Operation) : Operation :=
  match regAt c.offsets off with
  | some r => .instr (register r)
  | none =>
    match metricAt c.moreMetrics off with
    | some k => metric k
    | none => unmapped

theorem accessSpells_register {c : Config} {off : U8} {r : Reg} (h : regAt c.offsets off = some r) (register : Reg → Instr)
    (metric : U16 → Operation) (unmapped : Operation) : accessSpells c off register metric unmapped = .instr (register r) := by
  simp only [accessSpells, h]

theorem accessSpells_metric {c : Config} {off : U8} {k : U16} (hr : regAt c.offsets off = none)
    (hm : metricAt c.moreMetrics off = some k) (register : Reg → Instr) (metric : U16 → Operation) (unmapped : Operation) :
    accessSpells c off register metric unmapped = metric k := by
  simp only [accessSpells, hr, hm]

theorem accessSpells_unmapped {c : Config} {off : U8} (hr : regAt c.offsets off = none) (hm : metricAt c.moreMetrics off = none)
    (register : Reg → Instr) (metric : U16 → Operation) (unmapped : Operation) :
    accessSpells c off register metric unmapped = unmapped := by
  simp only [accessSpells, hr, hm]

/-- The word of a read of an even offset. -/
theorem decode_readWord {c : Config} {off : U8} (heven : off.getLsbD 0 = false) :
    decode c (mkWord 0x0#4 0#4 off 0#16) .none = .ok (accessSpells c off readInstr (.metricRead off) (.unmappedRead off)) := by
  unfold decode accessSpells
  cases hr : regAt c.offsets off <;> cases hm : metricAt c.moreMetrics off <;> simp [-BitVec.getLsbD_eq_getElem, heven, hr, hm]

/-- The word of a write to an even offset. -/
theorem decode_writeWord {c : Config} {off : U8} (heven : off.getLsbD 0 = false) (v : U16) :
    decode c (mkWord 0x1#4 0#4 off v) .none =
      .ok (accessSpells c off (writeInstr · v) (fun _ => .metricWrite off v) (.unmappedWrite off v)) := by
  unfold decode accessSpells
  cases hr : regAt c.offsets off <;> cases hm : metricAt c.moreMetrics off <;> simp [-BitVec.getLsbD_eq_getElem, heven, hr, hm]

/-- A mapped register stands at an even offset, and nothing else stands there. -/
theorem offsetIn_mapped {c : Config} (hc : c.wellFormed = true) {r : Reg} (h : (offsetIn c.offsets r).isSome = true) :
    ∃ off, offsetIn c.offsets r = some off ∧ off.getLsbD 0 = false ∧ regAt c.offsets off = some r := by
  obtain ⟨heven, hoffsets, -⟩ := Config.wellFormed_map hc
  obtain ⟨off, hoff⟩ := Option.isSome_iff_exists.mp h
  have hmem := mem_of_offsetIn hoff
  exact ⟨off, hoff, heven _ hmem, regAt_of_mem hoffsets hmem⟩

/-- Settles O55, by the form of the operation: a read, a write or a port event. -/
theorem decodeInvertsEncode : Obligations.DecodeInvertsEncode := by
  intro c i hc hi
  unfold encode
  unfold Instr.wellFormed at hi
  cases hf : i.form with
  | read r =>
    rw [hf] at hi
    obtain ⟨off, hoff, heven, hreg⟩ := offsetIn_mapped hc hi
    rw [Form.encode, hoff, Option.getD_some, decode_readWord heven, accessSpells_register hreg, readInstr_of_form hf]
  | write r v =>
    rw [hf] at hi
    obtain ⟨off, hoff, heven, hreg⟩ := offsetIn_mapped hc hi
    rw [Form.encode, hoff, Option.getD_some, decode_writeWord heven, accessSpells_register hreg, writeInstr_of_form hf]
  | port sel data beside =>
    obtain ⟨hport, hdata⟩ := portEvent_of_form hf
    exact decode_portWord hdata hport

/-! ### Encoding what was decoded -/

/-- The encoder writes the offset at which the map has the register. -/
theorem offsetIn_of_regAt {c : Config} (hc : c.wellFormed = true) {off : U8} {r : Reg} (h : regAt c.offsets off = some r) :
    offsetIn c.offsets r = some off := by
  obtain ⟨-, -, hregisters⟩ := Config.wellFormed_map hc
  exact offsetIn_of_mem hregisters (mem_of_regAt h)

theorem encode_readInstr {c : Config} (hc : c.wellFormed = true) {off : U8} {r : Reg} (h : regAt c.offsets off = some r) :
    encode c (readInstr r) = (mkWord 0x0#4 0#4 off 0#16, .none) := by
  rw [encode, readInstr_form, Form.encode, offsetIn_of_regAt hc h, Option.getD_some]

theorem encode_writeInstr {c : Config} (hc : c.wellFormed = true) {off : U8} {r : Reg} {v : U16} (h : regAt c.offsets off = some r) :
    encode c (writeInstr r v) = (mkWord 0x1#4 0#4 off v, .none) := by
  rw [encode, writeInstr_form, Form.encode, offsetIn_of_regAt hc h, Option.getD_some]

/-- Settles O56: an accepted word is the word of its fields, and each field is what the encoder writes. -/
theorem encodeInvertsDecode : Obligations.EncodeInvertsDecode := by
  intro c w beside op hc h
  obtain ⟨hkind, hoff, hsel, i, rfl, hport⟩ | ⟨hkind, hsel, hread, -, rfl, haccess⟩ := decode_ok h
  case inl =>
    have hk : kindField w = 0x2#4 := BitVec.eq_of_toNat_eq hkind
    rw [encodeOperation, encode, portEvent_form hsel hport, Form.encode, ← hk, ← hoff, mkWord_fields]
  case inr =>
    have hw := mkWord_fields w
    rw [hsel] at hw
    by_cases hk : (kindField w).toNat = 0
    · rw [BitVec.eq_of_toNat_eq (y := 0x0#4) hk, hread hk] at hw
      simp only [if_pos hk] at haccess
      obtain ⟨r, hreg, rfl⟩ | ⟨k, -, -, rfl⟩ | ⟨-, -, rfl⟩ := haccess
      · rw [encodeOperation, encode_readInstr hc hreg, hw]
      · rw [encodeOperation, hw]
      · rw [encodeOperation, hw]
    · have hone : (kindField w).toNat = 1 := by omega
      rw [BitVec.eq_of_toNat_eq (y := 0x1#4) hone] at hw
      simp only [if_neg hk] at haccess
      obtain ⟨r, hreg, rfl⟩ | ⟨k, -, -, rfl⟩ | ⟨-, -, rfl⟩ := haccess
      · rw [encodeOperation, encode_writeInstr hc hreg, hw]
      · rw [encodeOperation, hw]
      · rw [encodeOperation, hw]

/-! ### The rejected words -/

/-- The shape of operands that a port selector takes (30_encoding.md R93). -/
def takesBeside (sel : Nat) : Beside → Bool
  | .none => !(sel == 3 || sel == 4 || sel == 5 || sel == 6 || sel == 8)
  | .number _ => sel == 3 || sel == 4 || sel == 5
  | .box _ _ _ _ => sel == 6
  | .snapshot _ => sel == 8

theorem takesBeside_iff (sel : Nat) (beside : Beside) :
    takesBeside sel beside = true ↔
      if sel = 3 ∨ sel = 4 ∨ sel = 5 then ∃ v, beside = .number v
      else if sel = 6 then ∃ l r t b, beside = .box l r t b
      else if sel = 8 then ∃ snap, beside = .snapshot snap
      else beside = .none := by
  cases beside <;> simp [takesBeside] <;> omega

theorem exists_error_iff {ε α : Type} (x : Except ε α) : (∃ e, x = .error e) ↔ x.toBool = false := by
  cases x <;> simp [Except.toBool]

/-- Port events are accepted by their selector and the shape of their operands, selector by selector and shape by shape. -/
theorem portEvent_toBool (sel : BitVec 4) (data : U16) (beside : Beside) :
    (portEvent sel data beside).toBool = (decide (sel.toNat ≤ 9) && takesBeside sel.toNat beside) := by
  have hall : ∀ n : Fin 16, (portEvent (BitVec.ofFin n) data beside).toBool = (decide (n.val ≤ 9) && takesBeside n.val beside) := by
    intro n
    fin_cases n <;> cases beside <;> rfl
  exact hall sel.toFin

theorem portEvent_error_iff (sel : BitVec 4) (data : U16) (beside : Beside) :
    (∃ e, portEvent sel data beside = .error e) ↔ sel.toNat > 9 ∨ ¬takesBeside sel.toNat beside = true := by
  rw [exists_error_iff, portEvent_toBool, Bool.and_eq_false_iff, decide_eq_false_iff_not, Nat.not_le, Bool.not_eq_true]

/-- Every way a word can be rejected (30_encoding.md R106). -/
theorem decode_error_iff (c : Config) (w : U32) (beside : Beside) :
    (∃ e, decode c w beside = .error e) ↔
      (kindField w).toNat > 2 ∨
      ((kindField w).toNat = 2 ∧ (offField w ≠ 0#8 ∨ (dataField w ≠ 0#16 ∧ selField w ≠ 0#4) ∨
        ∃ e, portEvent (selField w) (dataField w) beside = .error e)) ∨
      ((kindField w).toNat < 2 ∧ (selField w ≠ 0#4 ∨ ((kindField w).toNat = 0 ∧ dataField w ≠ 0#16) ∨
        (offField w).getLsbD 0 = true ∨ beside ≠ .none)) := by
  unfold decode
  by_cases hhigh : (kindField w).toNat > 2
  · simp [hhigh]
  by_cases hport : (kindField w).toNat = 2
  · by_cases hoff : offField w ≠ 0#8
    · simp [hport, hoff]
    by_cases hdata : dataField w ≠ 0#16 ∧ selField w ≠ 0#4
    · simp [hport, hoff, hdata]
    cases hp : portEvent (selField w) (dataField w) beside <;> simp only [hport, hoff, hdata] <;> simp
  · have haccess : (kindField w).toNat < 2 := by omega
    by_cases hsel : selField w ≠ 0#4
    · simp [hhigh, hport, haccess, hsel]
    by_cases hdata : (kindField w).toNat = 0 ∧ dataField w ≠ 0#16
    · simp [hsel, hdata]
    by_cases hodd : (offField w).getLsbD 0 = true
    · simp only [hhigh, hport, haccess, hsel, hdata, hodd]; simp
    by_cases hbeside : beside = .none
    case neg => simp only [hhigh, hport, haccess, hsel, hdata, hodd]; simp [hbeside]
    cases hr : regAt c.offsets (offField w) <;> cases hm : metricAt c.moreMetrics (offField w) <;>
      simp only [hhigh, hport, haccess, hsel, hdata, hodd, hbeside] <;> simp

/-- The fields of a word as numbers (30_encoding.md R90). -/
theorem fields_toNat (w : U32) :
    (kindField w).toNat = w.toNat / 2 ^ 28 ∧ (selField w).toNat = w.toNat / 2 ^ 24 % 16 ∧ (offField w).toNat = w.toNat / 2 ^ 16 % 256 ∧
      (dataField w).toNat = w.toNat % 2 ^ 16 := by
  have hw := w.isLt
  simp only [kindField, selField, offField, dataField, BitVec.extractLsb'_toNat, Nat.shiftRight_eq_div_pow]
  exact ⟨by omega, trivial, trivial, by omega⟩

theorem getLsbD_zero_iff_odd (off : U8) : off.getLsbD 0 = true ↔ off.toNat % 2 = 1 := by
  simp [BitVec.getLsbD, Nat.testBit_zero]

/-- Settles O57: the reasons for a rejection, read as statements about numbers. -/
theorem decoderRejectsExactlyTheIrregularWords : Obligations.DecoderRejectsExactlyTheIrregularWords := by
  intro c w beside kind sel off data hkind hsel hoff hdata fits hfits
  obtain ⟨hk, hs, ho, hd⟩ := fields_toNat w
  rw [decode_error_iff, portEvent_error_iff, getLsbD_zero_iff_odd]
  simp only [ne_eq, ← BitVec.toNat_inj, BitVec.toNat_ofNat, Nat.zero_mod, hk, hs, ho, hd, ← hkind, ← hsel, ← hoff, ← hdata]
  have hport : kind = 2 → (fits ↔ takesBeside sel beside = true) := by
    rintro rfl
    simpa only [true_and, takesBeside_iff] using hfits
  have haccess : kind < 2 → (fits ↔ beside = .none) := by
    intro hlt
    simpa only [Nat.ne_of_lt hlt, false_and, if_false] using hfits
  obtain hlt | rfl | hgt := Nat.lt_trichotomy kind 2
  · rw [haccess hlt]
    simp only [Nat.ne_of_lt hlt, Nat.not_lt_of_lt hlt, hlt, gt_iff_lt, false_and, true_and, false_or]
    tauto
  · rw [hport rfl]
    simp only [gt_iff_lt, Nat.lt_irrefl, false_and, true_and, false_or, or_false]
    tauto
  · exact iff_of_true (.inl hgt) (.inl hgt)

/-- Settles O58: the decoder evaluated on the thirteen words. -/
theorem sampleWordsDecode : Obligations.SampleWordsDecode :=
  ⟨rfl, rfl, rfl, rfl, rfl, rfl, rfl, rfl, rfl, rfl, rfl, rfl, rfl⟩

end Sys2Proof

namespace Sys2Proof.Machine

/-! ### The step -/

theorem step_issued {s : State} {op : Issued} {rest : List Issued} (h : s.issued = op :: rest) : step s = performIssued op rest s := by
  simp only [step, h]

/-- A step whose first issued word spells `o` is `o` run on the state that has taken the word from the list. -/
theorem step_decoded {s : State} {op : Issued} {rest : List Issued} {o : Operation} (hissued : s.issued = op :: rest)
    (hdecode : decode s.cfg op.word op.beside = .ok o) : step s = runOperation o (acceptIssued op rest s) := by
  simp only [step_issued hissued, performIssued, hdecode]

/-- Settles O59. -/
theorem stepRunsTheDecodedOperation : Obligations.StepRunsTheDecodedOperation := by
  refine ⟨fun s op rest i hissued hdecode => ?accepted, fun s op rest e hissued hdecode => ?rejected, fun s hissued => ?idle⟩
  case accepted => exact step_decoded hissued hdecode
  case rejected => simp only [step_issued hissued, performIssued, hdecode]
  case idle => simp only [step, hissued]

/-- Settles O60: the word is that of a read or a write of the offset, which spells a further metric or an unmapped access. -/
theorem unmappedAccessesAreAbsorbed : Obligations.UnmappedAccessesAreAbsorbed := by
  intro s op rest off v hs hissued hbeside heven hreg r hr
  have hrun : Running (acceptIssued op rest s) := hs
  obtain rfl : r = acceptIssued op rest s := hr
  have hread (hword : op.word = mkWord 0x0#4 0#4 off 0#16) :
      step s = runOperation (accessSpells s.cfg off readInstr (.metricRead off) (.unmappedRead off)) (acceptIssued op rest s) :=
    step_decoded hissued (by rw [hword, hbeside, decode_readWord heven])
  have hwrite (hword : op.word = mkWord 0x1#4 0#4 off v) :
      step s = runOperation (accessSpells s.cfg off (writeInstr · v) (fun _ => .metricWrite off v) (.unmappedWrite off v))
        (acceptIssued op rest s) :=
    step_decoded hissued (by rw [hword, hbeside, decode_writeWord heven])
  refine ⟨fun hmetric hword => ?free, fun k hmetric hword => ?metric, fun hword => ?write⟩
  case free =>
    rw [hread hword, accessSpells_unmapped hreg hmetric]
    exact whenRunning_running hrun _
  case metric =>
    rw [hread hword, accessSpells_metric hreg hmetric]
    exact whenRunning_running hrun _
  case write =>
    rw [hwrite hword]
    cases hmetric : metricAt s.cfg.moreMetrics off with
    | none =>
      rw [accessSpells_unmapped hreg hmetric]
      exact busWriteIgnored_running hrun
    | some k =>
      rw [accessSpells_metric hreg hmetric]
      exact busWriteIgnored_running hrun

end Sys2Proof.Machine
end

section
/-! PROOFS. The computed registers STATUS and CONTROL, the constants, the mode-dependent reads (40_mmio_reads.md). -/

namespace Sys2Proof.Machine

/-! ### The bits of a computed register -/

/-- A position of STATUS holds what the flags at this position are (30_encoding.md R95). -/
theorem statusWord_getLsbD (b : StatusBits) (d : Descriptor) (atBreakpoint : Bool) (n : Fin 16) :
    (statusWord b d atBreakpoint).getLsbD n.val =
      ((d.hiWatermarkHit && decide (b.overflow = n)) || (d.loWatermarkHit && decide (b.underflow = n)) ||
        (readIdle d && decide (b.readIdle = n)) || (commandIdle d atBreakpoint && decide (b.commandIdle = n)) ||
        (d.breakpointHit && decide (b.breakpoint = n))) := by
  simp only [statusWord, BitVec.getLsbD_or, bitAt_getLsbD]

/-- A position of CONTROL holds what the flags at this position are (30_encoding.md R96). -/
theorem controlWord_getLsbD (b : ControlBits) (d : Descriptor) (n : Fin 16) :
    (controlWord b d).getLsbD n.val =
      ((d.readEnabled && decide (b.readEnable = n)) || (d.breakpointEnabled && decide (b.bpEnable = n)) ||
        (d.hiWatermarkInterruptEnabled && decide (b.hiInt = n)) || (d.loWatermarkInterruptEnabled && decide (b.loInt = n)) ||
        (d.linkEnabled && decide (b.link = n)) || (d.breakpointInterruptEnabled && decide (b.bpInt = n))) := by
  simp only [controlWord, BitVec.getLsbD_or, bitAt_getLsbD]

theorem controlMask_getLsbD (b : ControlBits) (n : Fin 16) :
    b.mask.getLsbD n.val =
      (decide (b.readEnable = n) || decide (b.bpEnable = n) || decide (b.hiInt = n) || decide (b.loInt = n) || decide (b.link = n) ||
        decide (b.bpInt = n)) := by
  have hbit : ∀ m : Fin 16, (1#16 <<< m.val).getLsbD n.val = decide (m = n) := fun m => by
    simpa only [bitAt, if_true, Bool.true_and] using bitAt_getLsbD m n true
  simp only [ControlBits.mask, BitVec.getLsbD_or, hbit]

/-- With five different positions, each bit of STATUS is one flag's and the other bits are 0. -/
theorem statusWord_bits {c : Config} (h : c.statusBitsDistinct = true) (d : Descriptor) (atBreakpoint : Bool) :
    (statusWord c.statusBits d atBreakpoint).getLsbD c.statusBits.overflow.val = d.hiWatermarkHit ∧
    (statusWord c.statusBits d atBreakpoint).getLsbD c.statusBits.underflow.val = d.loWatermarkHit ∧
    (statusWord c.statusBits d atBreakpoint).getLsbD c.statusBits.readIdle.val = readIdle d ∧
    (statusWord c.statusBits d atBreakpoint).getLsbD c.statusBits.commandIdle.val = commandIdle d atBreakpoint ∧
    (statusWord c.statusBits d atBreakpoint).getLsbD c.statusBits.breakpoint.val = d.breakpointHit ∧
    ∀ n : Fin 16, n ≠ c.statusBits.overflow → n ≠ c.statusBits.underflow → n ≠ c.statusBits.readIdle →
      n ≠ c.statusBits.commandIdle → n ≠ c.statusBits.breakpoint → (statusWord c.statusBits d atBreakpoint).getLsbD n.val = false := by
  simp only [Config.statusBitsDistinct, distinct, List.contains_cons, List.contains_nil, Bool.and_eq_true, Bool.not_eq_true',
    Bool.or_eq_false_iff, beq_eq_false_iff_ne] at h
  simp only [statusWord_getLsbD]
  grind

/-- Settles O4: the two idle bits are the statement's formulas by definition. -/
theorem statusReadShowsHitsAndIdleBits : Obligations.StatusReadShowsHitsAndIdleBits :=
  fun s hs hdistinct => ⟨_, busRead_running hs _, statusWord_bits hdistinct s.toDescriptor s.consAtBreakpoint⟩

/-- With six different positions, each bit of CONTROL is one flag's. -/
theorem controlWord_bits {c : Config} (h : c.controlBitsDistinct = true) (d : Descriptor) :
    (controlWord c.controlBits d).getLsbD c.controlBits.readEnable.val = d.readEnabled ∧
    (controlWord c.controlBits d).getLsbD c.controlBits.bpEnable.val = d.breakpointEnabled ∧
    (controlWord c.controlBits d).getLsbD c.controlBits.hiInt.val = d.hiWatermarkInterruptEnabled ∧
    (controlWord c.controlBits d).getLsbD c.controlBits.loInt.val = d.loWatermarkInterruptEnabled ∧
    (controlWord c.controlBits d).getLsbD c.controlBits.link.val = d.linkEnabled ∧
    (controlWord c.controlBits d).getLsbD c.controlBits.bpInt.val = d.breakpointInterruptEnabled := by
  simp only [Config.controlBitsDistinct, distinct, List.contains_cons, List.contains_nil, Bool.and_eq_true, Bool.not_eq_true',
    Bool.or_eq_false_iff, beq_eq_false_iff_ne] at h
  simp only [controlWord_getLsbD]
  grind

/-- A bit outside `CTRL_MASK` is at none of the six positions. -/
theorem controlWord_outside_mask {b : ControlBits} {n : Fin 16} (h : b.mask.getLsbD n.val = false) (d : Descriptor) :
    (controlWord b d).getLsbD n.val = false := by
  simp only [controlMask_getLsbD, Bool.or_eq_false_iff] at h
  obtain ⟨⟨⟨⟨⟨hread, hbp⟩, hhi⟩, hlo⟩, hlink⟩, hint⟩ := h
  simp only [controlWord_getLsbD, hread, hbp, hhi, hlo, hlink, hint, Bool.and_false, Bool.or_self]

/-- Settles O5. -/
theorem controlReadReassemblesTheEnables : Obligations.ControlReadReassemblesTheEnables := by
  intro s hs hdistinct
  obtain ⟨hread, hbp, hhi, hlo, hlink, hint⟩ := controlWord_bits hdistinct s.toDescriptor
  exact ⟨_, busRead_running hs _, hread, hbp, hhi, hlo, hlink, hint, fun n hn => controlWord_outside_mask hn s.toDescriptor⟩

/-! ### CONTROL read back -/

/-- Whatever falls inside it, a write of CONTROL copies the five flags, then changes only what the consumer side changes, then copies
read-enable (41_mmio_writes.md R181). -/
theorem controlWrite_frame (v : U16) (s : State) :
    ∃ x, ConsumerFrame (controlFlags v s) x ∧ controlWrite v s = controlReadEnable v x := by
  unfold controlWrite
  split
  · exact ⟨_, ConsumerFrame_trans (between_frame _ _) (ConsumerFrame_trans (callFlush_frame _) (between_frame _ _)), rfl⟩
  · exact ⟨_, ConsumerFrame_refl _, rfl⟩

/-- The six flags after a write of CONTROL are the written bits. -/
theorem controlWrite_flags (v : U16) (s : State) :
    (controlWrite v s).readEnabled = v.getLsbD s.cfg.controlBits.readEnable.val ∧
    (controlWrite v s).breakpointEnabled = v.getLsbD s.cfg.controlBits.bpEnable.val ∧
    (controlWrite v s).hiWatermarkInterruptEnabled = v.getLsbD s.cfg.controlBits.hiInt.val ∧
    (controlWrite v s).loWatermarkInterruptEnabled = v.getLsbD s.cfg.controlBits.loInt.val ∧
    (controlWrite v s).linkEnabled = v.getLsbD s.cfg.controlBits.link.val ∧
    (controlWrite v s).breakpointInterruptEnabled = v.getLsbD s.cfg.controlBits.bpInt.val ∧
    (controlWrite v s).cfg = s.cfg ∧ (controlWrite v s).fault = s.fault := by
  obtain ⟨x, ⟨hprog, -, -, hfault, hsurr⟩, hwrite⟩ := controlWrite_frame v s
  obtain ⟨-, -, -, -, -, hlink, -, hbp, hint, hhi, hlo, -⟩ := hprog
  obtain ⟨hcfg, -⟩ := hsurr
  have hread : (controlReadEnable v x).readEnabled = v.getLsbD s.cfg.controlBits.readEnable.val := by
    rw [controlReadEnable_readEnabled, ← hcfg, controlFlags_cfg]
  rw [hwrite]
  exact ⟨hread, hbp.symm, hhi.symm, hlo.symm, hlink.symm, hint.symm, hcfg.symm, hfault.symm⟩

/-- Settles O6: a bit that is a written bit at one of the six positions and 0 elsewhere is the written bit under the mask. -/
theorem controlReadsBackTheMaskedWrite : Obligations.ControlReadsBackTheMaskedWrite := by
  intro s v hs _
  obtain ⟨hread, hbp, hhi, hlo, hlink, hint, hcfg, hfault⟩ := controlWrite_flags v s
  refine ⟨controlWrite v s, whenRunning_running hs _, ?_⟩
  have hword : controlWord s.cfg.controlBits (controlWrite v s).toDescriptor = v &&& s.cfg.controlBits.mask := by
    apply BitVec.eq_of_getLsbD_eq
    intro i hi
    have hbit : ∀ m : Fin 16, (v.getLsbD m.val && decide (m = ⟨i, hi⟩)) = (v.getLsbD i && decide (m = ⟨i, hi⟩)) := fun m => by
      by_cases hm : m = ⟨i, hi⟩ <;> simp [hm]
    rw [BitVec.getLsbD_and, show i = (⟨i, hi⟩ : Fin 16).val from rfl, controlWord_getLsbD, controlMask_getLsbD]
    simp only [hread, hbp, hhi, hlo, hlink, hint, hbit, Bool.and_or_distrib_left]
  rw [← hword, ← hcfg]
  exact busRead_running (hfault.trans hs) _

/-! ### Constants and drawn values -/

/-- Settles O7: the constant is the one of the register's row, or the one the further pair was decoded with. -/
theorem constantRegistersReadTheirConstants : Obligations.ConstantRegistersReadTheirConstants := by
  intro s hs
  have hread := fun v => busRead_running hs v
  exact ⟨hread _, hread _, hread _, hread _, hread _, hread _, hread _, hread _, hread _, hread _, hread _, hread _, hread _, hread _,
    hread _, hread _, hread _, hread _, hread⟩

/-- Settles O8. -/
theorem rejectedReadReturnsADrawnValue : Obligations.RejectedReadReturnsADrawnValue :=
  fun _ hs => whenRunning_running hs _

/-! ### The registers that follow the mode -/

theorem shownValue_singleThread {s : State} (h : s.cfg.dualThread = false) (f : SplitField) :
    shownValue f s = splitValue f s.toDescriptor := by
  cases f with
  | fifoRwDistance => simp [shownValue, visibleDistance, h, splitValue]
  | fifoReadPointer => simp [shownValue, visibleReadPointer, h, splitValue]
  | _ => rfl

theorem shownValue_readPointer_dualThread {s : State} (h : s.cfg.dualThread = true) : shownValue .fifoReadPointer s = s.safeReadPointer := by
  simp [shownValue, visibleReadPointer, h]

/-- The dual-thread distance on either side of the wrap (40_mmio_reads.md R152). -/
theorem shownValue_distance_dualThread {s : State} (h : s.cfg.dualThread = true) :
    (s.safeReadPointer.toNat ≤ s.writePointer.toNat → shownValue .fifoRwDistance s = s.writePointer - s.safeReadPointer) ∧
    (s.writePointer.toNat < s.safeReadPointer.toNat →
      shownValue .fifoRwDistance s = (s.endAddr - s.safeReadPointer) + (s.writePointer - s.base) + s.cfg.distWrapBias) := by
  have hshown : shownValue .fifoRwDistance s = distDualThread s := by simp [shownValue, visibleDistance, h]
  rw [hshown, distDualThread]
  exact ⟨fun hle => if_pos (BitVec.le_def.mpr hle), fun hlt => if_neg fun hle => Nat.not_le_of_lt hlt (BitVec.le_def.mp hle)⟩

/-- Settles O11: the halves of the value that the mode shows. -/
theorem modeDependentReadsFollowTheMode : Obligations.ModeDependentReadsFollowTheMode := by
  intro s hs
  obtain ⟨distLo, distHi⟩ := exec_readHalves hs .fifoRwDistance
  obtain ⟨readLo, readHi⟩ := exec_readHalves hs .fifoReadPointer
  refine ⟨fun hsingle => ?single, fun hdual => ?dual⟩
  case single =>
    rw [shownValue_singleThread hsingle] at distLo distHi readLo readHi
    exact ⟨distLo, distHi, readLo, readHi⟩
  case dual =>
    rw [shownValue_readPointer_dualThread hdual] at readLo readHi
    obtain ⟨hbelow, habove⟩ := shownValue_distance_dualThread hdual
    exact ⟨readLo, readHi, shownValue .fifoRwDistance s, hbelow, habove, distLo, distHi⟩

end Sys2Proof.Machine
end

section
/-! PROOFS. The register writes (41_mmio_writes.md): the store to a split field with its laws, the half writes and their composition, the
write of CONTROL, and what no write does. -/

namespace Sys2Proof.Machine

/-! ### Storing into a split field -/

/-- `s` with the field of the descriptor behind a split field set to `x` (30_encoding.md R98). -/
def storeSplit (f : SplitField) (x : U32) (s : State) : State :=
  match f with
  | .fifoBase => { s with base := x }
  | .fifoEnd => { s with endAddr := x }
  | .fifoHiWatermark => { s with hiWatermark := x }
  | .fifoLoWatermark => { s with loWatermark := x }
  | .fifoRwDistance => { s with distance := x }
  | .fifoWritePointer => { s with writePointer := x }
  | .fifoReadPointer => { s with readPointer := x }
  | .fifoBp => { s with breakpoint := x }

@[simp] theorem splitValue_storeSplit_same (f : SplitField) (x : U32) (s : State) :
    splitValue f (storeSplit f x s).toDescriptor = x := by
  cases f <;> rfl

theorem splitValue_storeSplit_other {f g : SplitField} (h : g ≠ f) (x : U32) (s : State) :
    splitValue g (storeSplit f x s).toDescriptor = splitValue g s.toDescriptor := by
  cases f <;> cases g <;> simp_all [storeSplit, splitValue]

theorem storeSplit_storeSplit (f : SplitField) (x y : U32) (s : State) : storeSplit f y (storeSplit f x s) = storeSplit f y s := by
  cases f <;> rfl

@[simp] theorem storeSplit_cfg (f : SplitField) (x : U32) (s : State) : (storeSplit f x s).cfg = s.cfg := by cases f <;> rfl
@[simp] theorem storeSplit_out (f : SplitField) (x : U32) (s : State) : (storeSplit f x s).out = s.out := by cases f <;> rfl
@[simp] theorem storeSplit_safeReadPointer (f : SplitField) (x : U32) (s : State) :
    (storeSplit f x s).safeReadPointer = s.safeReadPointer := by cases f <;> rfl

theorem storeSplit_running {s : State} (h : Running s) (f : SplitField) (x : U32) : Running (storeSplit f x s) := by
  cases f <;> exact h

/-- A write of either half stores the merged field (41_mmio_writes.md R184). -/
theorem exec_writeHalves {s : State} (h : Running s) (f : SplitField) (v : U16) :
    exec (writeInstr (loReg f) v) s = .next (storeSplit f (writeLo s.cfg (splitValue f s.toDescriptor) v) s) ∧
      exec (writeInstr (hiReg f) v) s = .next (storeSplit f (writeHi s.cfg (splitValue f s.toDescriptor) v) s) := by
  cases f <;> exact ⟨whenRunning_running h _, whenRunning_running h _⟩

/-- Settles O14: the two fields that the reads of their registers need not show are stored like the others. -/
theorem distanceAndReadPointerWritesReachTheStoredField : Obligations.DistanceAndReadPointerWritesReachTheStoredField := by
  intro s v hs hkeep
  obtain ⟨distLo, distHi⟩ := exec_writeHalves hs .fifoRwDistance v
  obtain ⟨readLo, readHi⟩ := exec_writeHalves hs .fifoReadPointer v
  rw [writeLo_keeps hkeep] at distLo readLo
  rw [writeHi_keeps hkeep] at distHi readHi
  exact ⟨distLo, distHi, readLo, readHi⟩

/-! ### A half write bit by bit -/

theorem getLsbD_writeLo_high (c : Config) (f : U32) (v : U16) (n : Nat) (hn : 16 ≤ n) : (writeLo c f v).getLsbD n = f.getLsbD n := by
  rw [writeLo, getLsbD_join, if_neg (by omega)]
  by_cases h : n - 16 < 16
  · rw [getLsbD_hi16 _ _ h, Nat.sub_add_cancel hn]
  · rw [BitVec.getLsbD_of_ge _ _ (by omega), BitVec.getLsbD_of_ge _ _ (by omega)]

theorem getLsbD_writeHi_low (c : Config) (f : U32) (v : U16) (n : Nat) (hn : n < 16) : (writeHi c f v).getLsbD n = f.getLsbD n := by
  rw [← getLsbD_lo16 _ n hn, lo16_writeHi, getLsbD_lo16 _ n hn]

/-- Settles O15. -/
theorem halfWritesUnderEitherMaskSetting : Obligations.HalfWritesUnderEitherMaskSetting := by
  intro f v s hs
  obtain ⟨hlo, hhi⟩ := exec_writeHalves hs f v
  refine ⟨⟨_, hlo, ?_, ?_, fun g hg => splitValue_storeSplit_other hg _ s, storeSplit_safeReadPointer f _ s⟩,
    ⟨_, hhi, ?_, ?_, fun g hg => splitValue_storeSplit_other hg _ s, storeSplit_safeReadPointer f _ s⟩⟩
  all_goals rw [splitValue_storeSplit_same]
  · exact getLsbD_writeLo s.cfg _ v
  · exact getLsbD_writeLo_high s.cfg _ v
  · exact getLsbD_writeHi s.cfg _ v
  · exact getLsbD_writeHi_low s.cfg _ v

/-! ### The 32-bit accesses -/

/-- The low half written, then the high half: the masked 32-bit write (30_encoding.md R104). -/
theorem writeHi_writeLo {c : Config} (h : c.maskedWriteKeepsOld = true) (f v : U32) :
    writeHi c (writeLo c f (lo16 v)) (hi16 v) =
      (f &&& ~~~(c.hiMask ++ 0xFFE0#16 : U32)) ||| (v &&& (c.hiMask ++ 0xFFE0#16 : U32)) := by
  have hhalves : ∀ x : U32, x = hi16 x ++ lo16 x := fun x => (join_halves x).symm
  conv_rhs => rw [hhalves f, hhalves v, BitVec.not_append, BitVec.and_append, BitVec.and_append, BitVec.or_append]
  rw [writeHi, hi16_writeLo, lo16_writeLo, maskedWrite_keeps h, maskedWrite_keeps h]
  rfl

/-- The two half writes commute, since each leaves the other half. -/
theorem writeLo_writeHi (c : Config) (f : U32) (lo hi : U16) : writeLo c (writeHi c f hi) lo = writeHi c (writeLo c f lo) hi := by
  simp only [writeLo, writeHi, hi16_join, lo16_join]

/-- `WR32` runs its two half writes in either order to the same state. -/
theorem runInstrs_wr32 {s : State} (hs : Running s) (f : SplitField) (v : U32) :
    runInstrs (wr32 f v) s = .next (storeSplit f (writeHi s.cfg (writeLo s.cfg (splitValue f s.toDescriptor) (lo16 v)) (hi16 v)) s) ∧
      runInstrs (wr32 f v).reverse s = runInstrs (wr32 f v) s := by
  have hlohi : runInstrs (wr32 f v) s =
      .next (storeSplit f (writeHi s.cfg (writeLo s.cfg (splitValue f s.toDescriptor) (lo16 v)) (hi16 v)) s) := by
    obtain ⟨hlo, -⟩ := exec_writeHalves hs f (lo16 v)
    obtain ⟨-, hhi⟩ := exec_writeHalves (storeSplit_running hs f _) f (hi16 v)
    rw [storeSplit_storeSplit, splitValue_storeSplit_same, storeSplit_cfg] at hhi
    rw [wr32, runInstrs_cons hlo, runInstrs_cons hhi, runInstrs]
  refine ⟨hlohi, ?_⟩
  obtain ⟨-, hhi⟩ := exec_writeHalves hs f (hi16 v)
  obtain ⟨hlo, -⟩ := exec_writeHalves (storeSplit_running hs f _) f (lo16 v)
  rw [storeSplit_storeSplit, splitValue_storeSplit_same, storeSplit_cfg, writeLo_writeHi] at hlo
  rw [hlohi]
  show runInstrs [writeInstr (hiReg f) (hi16 v), writeInstr (loReg f) (lo16 v)] s = _
  rw [runInstrs_cons hhi, runInstrs_cons hlo, runInstrs]

/-- `RD32` with completed operations between its reads: the low half of what was shown before them and the high half of what is shown after
(30_encoding.md R102). -/
theorem rd32Value_eq {s u : State} (hs : Running s) (hu : Running u) (f : SplitField) (middle : List Instr)
    (h : runInstrs middle { s with readData := some (lo16 (shownValue f s)) } = .next u) :
    rd32Value f middle s = some (join (hi16 (shownValue f u)) (lo16 (shownValue f s))) := by
  obtain ⟨hlo, -⟩ := exec_readHalves hs f
  obtain ⟨-, hhi⟩ := exec_readHalves hu f
  simp only [rd32Value, hlo, h, hhi, rd32Result]

theorem shownValue_readData (f : SplitField) (s : State) (v : Option U16) : shownValue f { s with readData := v } = shownValue f s := by
  cases f <;> rfl

/-- `RD32` with nothing between its reads is the value its registers show. -/
theorem rd32Value_shown {s : State} (hs : Running s) (f : SplitField) : rd32Value f [] s = some (shownValue f s) := by
  rw [rd32Value_eq hs (u := { s with readData := some (lo16 (shownValue f s)) }) hs f [] rfl, shownValue_readData, join_halves]

/-- The registers of a field with no dual-thread form show the stored field in both modes. -/
theorem shownValue_stored {s : State} {f : SplitField} (h : s.cfg.dualThread = false ∨ (f ≠ .fifoRwDistance ∧ f ≠ .fifoReadPointer)) :
    shownValue f s = splitValue f s.toDescriptor := by
  obtain hsingle | ⟨hdist, hread⟩ := h
  · exact shownValue_singleThread hsingle f
  · cases f with
    | fifoRwDistance => exact absurd rfl hdist
    | fifoReadPointer => exact absurd rfl hread
    | _ => rfl

/-- Settles O22. -/
theorem twoHalfWritesComposeInEitherOrder : Obligations.TwoHalfWritesComposeInEitherOrder := by
  refine ⟨fun f v s hs hkeep => ?write, fun f s hs => ?read, fun f v s t hs hsingle h => ?torn⟩
  case write =>
    obtain ⟨hwrite, hreverse⟩ := runInstrs_wr32 hs f v
    refine ⟨_, hwrite, hreverse.trans hwrite, ?_, fun g hg => splitValue_storeSplit_other hg _ s, storeSplit_out f _ s⟩
    rw [splitValue_storeSplit_same, writeHi_writeLo hkeep]
  case read =>
    simp only [rd32Value_shown hs]
    refine ⟨fun h => by rw [shownValue_stored h], fun hdual => by rw [shownValue_readPointer_dualThread hdual],
      fun hdual hle => ?_, fun hdual hlt => ?_⟩
    · rw [(shownValue_distance_dualThread hdual).1 hle]
    · rw [(shownValue_distance_dualThread hdual).2 hlt]
  case torn =>
    obtain ⟨hwrite, -⟩ := runInstrs_wr32 hs f v
    have hsrun : Running { s with readData := some (lo16 (shownValue f s)) } := hs
    obtain ⟨hmiddle, -⟩ := runInstrs_wr32 hsrun f v
    have ht := Host.Outcome.next.inj (h.symm.trans hwrite)
    rw [rd32Value_eq hs (storeSplit_running hsrun f _) f _ hmiddle, shownValue_singleThread hsingle,
      shownValue_singleThread (by rw [storeSplit_cfg]; exact hsingle), splitValue_storeSplit_same, ht, splitValue_storeSplit_same]
    rfl

/-! ### Alignment -/

/-- A word is a multiple of 32 when its low five bits are 0. -/
theorem mod_32_iff (x : U32) : x.toNat % 32 = 0 ↔ ∀ n, n < 5 → x.getLsbD n = false := by
  rw [show x.toNat % 32 = (x.setWidth 5).toNat from (BitVec.toNat_setWidth 5 x).symm, show 0 = (0#5).toNat from rfl, BitVec.toNat_inj]
  constructor
  · intro h n hn
    rw [← BitVec.getLsbD_zero (w := 5) (i := n), ← h, BitVec.getLsbD_setWidth, decide_eq_true hn, Bool.true_and]
  · intro h
    apply BitVec.eq_of_getLsbD_eq
    intro n hn
    rw [BitVec.getLsbD_setWidth, decide_eq_true hn, Bool.true_and, h n hn, BitVec.getLsbD_zero]

/-- The low five bits, which `LO_MASK` leaves out, are kept or cleared by a write of the low half and kept by one of the high half. -/
theorem writeHalves_aligned (c : Config) {f : U32} (h : f.toNat % 32 = 0) (v : U16) :
    (writeLo c f v).toNat % 32 = 0 ∧ (writeHi c f v).toNat % 32 = 0 := by
  rw [mod_32_iff] at h
  refine ⟨(mod_32_iff _).mpr fun n hn => ?_, (mod_32_iff _).mpr fun n hn => ?_⟩
  · have hmask : loMask.getLsbD n = false := by interval_cases n <;> rfl
    rw [getLsbD_writeLo c f v n (by omega), hmask, h n hn, Bool.and_false]
    rfl
  · rw [getLsbD_writeHi_low c f v n (by omega), h n hn]

/-- What a register write stores: the kinds of write with the store to a split field by its name. -/
theorem exec_writeInstr_stores {r : Reg} {v : U16} {s t : State} (h : exec (writeInstr r v) s = .next t) :
    (r = .control ∧ t = controlWrite v s) ∨ (∃ x, t = { s with token := x }) ∨
      (∃ f x, (x = writeLo s.cfg (splitValue f s.toDescriptor) v ∨ x = writeHi s.cfg (splitValue f s.toDescriptor) v) ∧
        t = storeSplit f x s) ∨
      t = s := by
  obtain ⟨-, hcontrol | ⟨-, ht⟩ | ⟨f, x, hx, ht⟩ | ht⟩ := exec_writeInstr_next h
  · exact .inl hcontrol
  · exact .inr (.inl ⟨_, ht⟩)
  · exact .inr (.inr (.inl ⟨f, x, hx.imp And.right And.right, by rw [ht]; cases f <;> rfl⟩))
  · exact .inr (.inr (.inr ht))

theorem storeSplit_aligned {f : SplitField} {x : U32} {s : State} (hx : x.toNat % 32 = 0) (hs : Aligned32 s.toDescriptor) :
    Aligned32 (storeSplit f x s).toDescriptor := by
  intro g
  by_cases hg : g = f
  · rw [hg, splitValue_storeSplit_same]
    exact hx
  · rw [splitValue_storeSplit_other hg]
    exact hs g

/-- Settles O23: CONTROL and TOKEN are no split field, and a half write keeps the low five bits 0. -/
theorem registerWritesKeepFieldsAligned : Obligations.RegisterWritesKeepFieldsAligned := by
  intro r v s t h hq hs
  obtain ⟨-, rfl⟩ | ⟨x, rfl⟩ | ⟨f, x, hx, rfl⟩ | rfl := exec_writeInstr_stores h
  · obtain ⟨e, he, -⟩ := controlWrite_quiet hq v
    rw [he]
    exact fun f => hs f
  · exact hs
  · obtain ⟨hlo, hhi⟩ := writeHalves_aligned s.cfg (hs f) v
    refine storeSplit_aligned ?_ hs
    obtain rfl | rfl := hx
    · exact hlo
    · exact hhi
  · exact hs

/-! ### CONTROL -/

/-- Settles O19: without a falling edge the two halves of the write follow each other at once. -/
theorem controlWriteCopiesTheSixFlags : Obligations.ControlWriteCopiesTheSixFlags := by
  intro s v hs hedge
  have hflush : controlFlushes v s = false := by
    obtain h | h := hedge <;> simp only [controlFlushes, h, Bool.not_true, Bool.and_false, Bool.false_and]
  have hwrite : controlWrite v s = controlReadEnable v (controlFlags v s) := by simp only [controlWrite, hflush, Bool.false_eq_true, if_false]
  exact (whenRunning_running hs (.next (controlWrite v s))).trans (congrArg _ hwrite)

/-- On a falling edge with nothing between the steps, the flush stands between the five flags and read-enable. -/
theorem controlWrite_falling {s : State} {v : U16} (hb : NothingBetween s) (h : controlFlushes v s = true) :
    controlWrite v s = controlReadEnable v (callFlush (controlFlags v s)) := by
  obtain ⟨-, -, -, -, hcfg, -⟩ := callFlush_frame (controlFlags v s)
  obtain ⟨hafter1, -⟩ := NothingBetween_gaps hb (t := controlFlags v s) rfl
  obtain ⟨-, -, hafter2, -⟩ := NothingBetween_gaps hb (t := callFlush (controlFlags v s)) hcfg.symm
  rw [controlWrite, if_pos h, hafter1]
  dsimp only
  rw [hafter2]

/-- Settles O20: the state before is the five flags with `FlushGpu` emitted, the state after is that of the flush, which changes neither
read-enable nor the configuration. -/
theorem controlFallingEdgeFlushesFirst : Obligations.ControlFallingEdgeFlushesFirst := by
  intro s v hs hread hbit hb
  obtain ⟨hprog, -, -, -, hcfg, -⟩ := callFlush_frame (controlFlags v s)
  obtain ⟨-, -, -, -, -, -, hflushed, -⟩ := hprog
  have hfalls : controlFlushes v s = true := by simp only [controlFlushes, hread, hbit, Bool.not_false, Bool.and_true]
  have hoff : controlReadEnable v (callFlush (controlFlags v s)) = { callFlush (controlFlags v s) with readEnabled := false } := by
    have hafter : v.getLsbD (callFlush (controlFlags v s)).cfg.controlBits.readEnable.val = false := by rw [← hcfg]; exact hbit
    rw [controlReadEnable, hafter]
  refine ⟨emit [.flushGpu] (controlFlags v s), callFlush (controlFlags v s), rfl, runInstrs_flush (s := controlFlags v s) hs,
    hflushed.symm.trans hread, ?_⟩
  rw [← hoff, ← controlWrite_falling hb hfalls]
  exact whenRunning_running hs _

/-! ### What no register write does -/

/-- With nothing inside it a write leaves the surroundings and emits nothing, but for `FlushGpu` on a falling edge. -/
theorem exec_writeInstr_out {r : Reg} {v : U16} {s t : State} (hq : NothingInside s) (h : exec (writeInstr r v) s = .next t) :
    SameSurroundings s t ∧
      (t.out = s.out ∨ (r = .control ∧ s.readEnabled = true ∧ t.readEnabled = false ∧ t.out = s.out ++ [.flushGpu])) := by
  have hsame : SameSurroundings s s := ⟨rfl, rfl, rfl, rfl, rfl, rfl, rfl⟩
  obtain ⟨rfl, rfl⟩ | ⟨x, rfl⟩ | ⟨f, x, -, rfl⟩ | rfl := exec_writeInstr_stores h
  · obtain ⟨e, he, ⟨rfl, -⟩ | ⟨rfl, hfalls⟩⟩ := controlWrite_quiet hq v <;> rw [he]
    · exact ⟨hsame, .inl (List.append_nil _)⟩
    · simp only [controlFlushes, Bool.and_eq_true, Bool.not_eq_true'] at hfalls
      exact ⟨hsame, .inr ⟨rfl, hfalls.1, hfalls.2, rfl⟩⟩
  · exact ⟨hsame, .inl rfl⟩
  · exact ⟨by cases f <;> exact hsame, .inl (storeSplit_out f x s)⟩
  · exact ⟨hsame, .inl rfl⟩

/-- Settles O21: what no register write gives a new value, and what it emits. -/
theorem noRegisterWriteRunsTheEvaluator : Obligations.NoRegisterWriteRunsTheEvaluator := by
  intro r v s t h hq
  obtain ⟨hsafe, hhits, hbox, hmailbox, hlink, -⟩ := exec_writeInstr_writeFrame hq h
  obtain ⟨hsurr, hout⟩ := exec_writeInstr_out hq h
  exact ⟨hhits, hmailbox, hlink, hsurr, hbox, hsafe, hout⟩

/-! ### CLEAR and the metrics -/

/-- Settles O18: each of these writes is ignored. -/
theorem clearAndMetricsWritesChangeNothing : Obligations.ClearAndMetricsWritesChangeNothing := by
  intro s v hs
  have hsame := busWriteIgnored_running hs
  exact ⟨hsame, hsame, hsame, hsame, hsame, hsame, hsame, hsame, hsame, hsame, hsame, hsame, hsame, hsame, hsame, hsame, hsame, hsame,
    hsame⟩

end Sys2Proof.Machine
end

section
/-! PROOFS. The evaluator (44_interrupt_evaluator.md sections 2 to 5) and `DELIVER`: what an evaluation repeats, ignores and decides. -/

namespace Sys2Proof.Machine

/-! ### An evaluation with a change in flight -/

/-- Settles O37: a change in flight leaves the first branch only, which rewrites the hit flags. -/
theorem pendingChangeBlocksBothSides : Obligations.PendingChangeBlocksBothSides :=
  fun side _ hpending => evaluate_settled side (.inr hpending)

/-! ### A second evaluation -/

/-- After an evaluation the line is as the condition says or a change is in flight, so a second one rewrites the hit flags only; the
comparators do not read these, so they are rewritten to what they are. -/
theorem evaluate_evaluate (side side' : Side) (s : State) : evaluate side' (evaluate side s) = evaluate side s := by
  obtain ⟨h, hsettled⟩ | ⟨h, -⟩ | ⟨h, -⟩ := evaluate_cases side s <;> rw [h]
  · exact evaluate_settled side' hsettled
  · exact evaluate_settled side' (.inr rfl)
  · exact evaluate_settled side' (.inl rfl)

/-- Settles O38. -/
theorem secondEvaluationChangesNothing : Obligations.SecondEvaluationChangesNothing := by
  refine ⟨evaluate_evaluate, fun s t h => ?_⟩
  obtain ⟨hs, h⟩ := whenRunning_next h
  cases h
  rw [exec_evalGpu_running ((evaluate_fault .gpu s).trans hs), evaluate_evaluate]

/-! ### The breakpoint -/

/-- With nothing in flight, an evaluation that does not defer leaves the line as the composite condition says. -/
theorem evaluate_line {side : Side} {s : State} (hpending : s.interruptChangePending = false)
    (hside : ¬(side = .gpu ∧ s.cfg.dualThread = true)) :
    (evaluate side s).interruptAsserted = compositeCondition (refreshHits s.toDescriptor) := by
  by_cases h : compositeCondition (refreshHits s.toDescriptor) = s.interruptAsserted
  · rw [evaluate_settled side (.inl h), evaluateHits_interruptAsserted, h]
  · rw [evaluate_applies h hpending hside, applyTransition_interruptAsserted]

/-- Settles O39: with both watermark interrupts disabled the composite condition is the conjunction of the four conditions. -/
theorem breakpointInterruptAssertsIff : Obligations.BreakpointInterruptAssertsIff := by
  intro s hs hsingle hpending hhi hlo
  refine ⟨_, exec_evalGpu_running hs, ?_⟩
  rw [evaluate_line hpending (by simp [hsingle])]
  simp only [compositeCondition, refreshHits, newBreakpointHit, hhi, hlo, Bool.and_false, Bool.or_false, Bool.and_eq_true, beq_iff_eq]
  tauto

/-- Settles O40: an edge is a difference between the comparator, which the evaluation stores, and the stored flag. -/
theorem breakpointFlagMovesOnItsEdges : Obligations.BreakpointFlagMovesOnItsEdges := by
  intro side s
  have hstored : (evaluate side s).breakpointHit = newBreakpointHit s.toDescriptor := by rw [evaluate_toDescriptor]; rfl
  rw [hstored, bpRise, bpFall]
  cases newBreakpointHit s.toDescriptor <;> cases s.breakpointHit <;> decide

/-! ### What the evaluator and STATUS do not read -/

/-- `s` with other values in the fields that neither the evaluator nor STATUS reads (44_interrupt_evaluator.md section 5). -/
def withUnread (p a b w : U32) (l r t u k : U16) (s : State) : State :=
  { s with safeReadPointer := p, linkBase := a, linkEnd := b, linkWritePointer := w, bboxLeft := l, bboxRight := r, bboxTop := t,
           bboxBottom := u, token := k }

/-- Each branch of an evaluation commutes with a change of the fields it does not read, and its test does not see the change. -/
theorem evaluate_withUnread (side : Side) (p a b w : U32) (l r t u k : U16) (s : State) :
    evaluate side (withUnread p a b w l r t u k s) = withUnread p a b w l r t u k (evaluate side s) := by
  obtain ⟨h, hsettled⟩ | ⟨h, hne, hpending, rfl, hdual⟩ | ⟨h, hne, hpending, hside⟩ := evaluate_cases side s <;> rw [h]
  · exact evaluate_settled side (s := withUnread p a b w l r t u k s) hsettled
  · exact evaluate_gpu_defers (s := withUnread p a b w l r t u k s) hne hpending hdual
  · exact evaluate_applies (s := withUnread p a b w l r t u k s) hne hpending hside

/-- Settles O41: the STATUS word is a function of descriptor fields that the change leaves, of the bit positions and of the query. -/
theorem evaluatorAndStatusIgnoreTheSafePointer : Obligations.EvaluatorAndStatusIgnoreTheSafePointer := by
  intro side s p a b w l r t u k mode
  refine ⟨evaluate_withUnread side p a b w l r t u k s, fun v v' hv hv' => ?_⟩
  obtain ⟨-, rfl⟩ := busRead_next hv
  obtain ⟨-, rfl⟩ := busRead_next hv'
  rfl

/-! ### DELIVER -/

/-- Settles O42. -/
theorem deliverAppliesTheHeadOrIsStuck : Obligations.DeliverAppliesTheHeadOrIsStuck := by
  intro s hs
  have hexec : exec .deliver s = deliverHead s := whenRunning_running hs _
  refine ⟨fun level rest hq => ?head, fun hq => ?stuck⟩ <;> rw [hexec, deliverHead, hq]
  case head => rfl

end Sys2Proof.Machine
end

section
/-! PROOFS. The consumer port, SNAPSHOT_RESTORE and RESET (43_consumer_port.md, 45_snapshot.md, 70_reset_and_hazards.md section 1). -/

namespace Sys2Proof.Machine

/-! ### The consumer port -/

theorem exec_consumerInstr_running {s : State} (h : Running s) (op : ConsumerOp) :
    exec (consumerInstr op) s = .next (consumerStep op s) :=
  (exec_consumerInstr op s).trans (whenRunning_running h _)

theorem between_dualThread {s : State} (h : s.cfg.dualThread = true) (ops : List ConsumerOp) : between ops s = runConsumer ops s := by
  rw [between, if_pos h]

/-- Settles O44: the five operations of the port are `consumerStep`, alone and one after another. -/
theorem consumerPortWritesItsFields : Obligations.ConsumerPortWritesItsFields := by
  intro s hs
  have hport := exec_consumerInstr_running hs
  exact ⟨fun v => hport (.rpSet v), fun n => hport (.distSub n), fun v => hport (.safePublish v), fun l r t b => hport (.bboxSet l r t b),
    fun v => hport (.rpSet v), fun n => hport (.distSub n), fun v => hport (.safePublish v), fun l r t b => hport (.bboxSet l r t b),
    hport .evalGpu, runInstrs_consumer hs, fun ops hdual => between_dualThread hdual ops ▸ runInstrs_consumer hs ops, runInstrs_flush hs⟩

/-! ### SNAPSHOT_RESTORE -/

theorem exec_snapshotRestore_running {s : State} (h : Running s) (snap : Snapshot) :
    exec (.snapshotRestore snap) s = .next (installSnapshot snap s) :=
  whenRunning_running h _

/-- Settles O48. -/
theorem snapshotRestoreInstallsCoreAndQueue : Obligations.SnapshotRestoreInstallsCoreAndQueue :=
  fun s snap hs => ⟨installSnapshot snap s, exec_snapshotRestore_running hs snap, rfl, rfl, ⟨rfl, rfl, rfl⟩, hs,
    ⟨rfl, rfl, rfl, rfl, rfl, rfl, rfl⟩, rfl⟩

/-- A restore of what was saved gives the hardware state back where the parts that a snapshot leaves out are the same. -/
theorem installSnapshot_takeSnapshot {x y : State} (hlink : SameLinkState x y) (hfault : x.fault = y.fault) (hcfg : x.cfg = y.cfg) :
    SameTracker x (installSnapshot (takeSnapshot x) y) := by
  obtain ⟨hbase, hend, hwrite⟩ := hlink
  exact ⟨rfl, rfl, hbase, hend, hwrite, hfault, hcfg⟩

/-- STATUS reads a function of the descriptor, the bit positions and the query of the consumer (40_mmio_reads.md R130). -/
theorem exec_rd16Status_running {s : State} (h : Running s) :
    exec .rd16Status s = .next { s with readData := some (statusWord s.cfg.statusBits s.toDescriptor s.consAtBreakpoint) } :=
  busRead_running h _

/-- Settles O49. -/
theorem snapshotRoundTripReproducesTheState : Obligations.SnapshotRoundTripReproducesTheState := by
  intro x y hx hy hlink hcfg hquery
  refine ⟨_, takeSnapshot x, _, exec_snapshotSave_running hx, rfl, exec_snapshotRestore_running hy _,
    installSnapshot_takeSnapshot hlink (hx.trans hy.symm) hcfg, _, _, exec_rd16Status_running hx,
    exec_rd16Status_running (s := installSnapshot (takeSnapshot x) y) hy, ?_⟩
  rw [hcfg, hquery]
  rfl

/-! ### RESET -/

/-- Settles O2: the reset state is a literal. -/
theorem resetHoldsTheDecidedValues : Obligations.ResetHoldsTheDecidedValues := by
  rintro c s rfl
  exact ⟨rfl, rfl, rfl, rfl, rfl, rfl, rfl, rfl, rfl, rfl, rfl, rfl, rfl, rfl, rfl, rfl, rfl, rfl, rfl, rfl, rfl⟩

/-- Settles O3. -/
theorem resetOperationGivesTheResetState : Obligations.ResetOperationGivesTheResetState :=
  fun s => ⟨resetTracker s, rfl, ⟨rfl, rfl, rfl, rfl, rfl, rfl, rfl⟩, ⟨rfl, rfl, rfl, rfl, rfl, rfl, rfl⟩, rfl⟩

end Sys2Proof.Machine
end

section
/-! PROOFS. The burst in both link modes (42_producer_burst.md): its frame, the flush of an unlinked burst, the whole of a linked one, and the
ring filled by bursts. -/

namespace Sys2Proof.Machine

/-! ### The frame of a burst -/

/-- The programming and the surroundings are as they were (10_state.md R50). -/
def ProgrammingFrame (s t : State) : Prop := SameProgramming s t ∧ SameSurroundings s t

theorem ProgrammingFrame_refl (s : State) : ProgrammingFrame s s := by
  simp [ProgrammingFrame, SameProgramming, SameSurroundings]

theorem ProgrammingFrame_trans {s t u : State} (h : ProgrammingFrame s t) (k : ProgrammingFrame t u) : ProgrammingFrame s u := by
  simp only [ProgrammingFrame, SameProgramming, SameSurroundings] at *
  simp_all

theorem ProgrammingFrame_of_consumerFrame {s t : State} (h : ConsumerFrame s t) : ProgrammingFrame s t := by
  obtain ⟨hprog, -, -, -, hsurr⟩ := h
  exact ⟨hprog, hsurr⟩

theorem burstPublish_programmingFrame (s : State) : ProgrammingFrame s (burstPublish s) := by
  obtain ⟨-, -, h⟩ | ⟨-, h⟩ := burstPublish_cases s <;> rw [h] <;> exact ProgrammingFrame_refl s

/-- Whatever falls inside a burst, none of its steps writes the programming or the surroundings. -/
theorem burst_programmingFrame (size : U32) (s : State) : ProgrammingFrame s (burst size s) :=
  burst_keeps (ProgrammingFrame s) size s
    (fun op _ x hx => ProgrammingFrame_trans hx (ProgrammingFrame_of_consumerFrame (consumerStep_frame op x)))
    (fun x hx => ProgrammingFrame_trans hx (ProgrammingFrame_of_consumerFrame (evaluate_frame .cpu x)))
    (fun e x _ hx => ProgrammingFrame_trans hx (ProgrammingFrame_of_consumerFrame (emit_frame e x)))
    (fun _ hx => hx) (fun x hx => ProgrammingFrame_trans hx (burstPublish_programmingFrame x)) (fun _ hx => hx) (fun _ _ hx => hx)
    (ProgrammingFrame_refl s)

/-- Settles O29. -/
theorem burstKeepsTheProgramming : Obligations.BurstKeepsTheProgramming := by
  intro s t size h
  obtain ⟨-, h⟩ := whenRunning_next h
  cases h
  exact burst_programmingFrame (size.setWidth 32) s

/-! ### The flush of an unlinked burst -/

theorem flushForced_iff (s : State) :
    flushForced s = true ↔ s.cfg.flushOnUnlinkedBurst = true ∧ s.linkBase = s.base ∧ s.linkEnd = s.endAddr ∧ s.distance ≠ 0#32 := by
  simp only [flushForced, Bool.and_eq_true, beq_iff_eq, bne_iff_ne]
  tauto

/-- The flush decision reads nothing that an evaluation writes. -/
theorem flushForced_evaluate (side : Side) (s : State) : flushForced (evaluate side s) = flushForced s := by
  obtain ⟨⟨hbase, hend, -⟩, -, ⟨hlinkBase, hlinkEnd, -⟩, -, hcfg, -⟩ := evaluate_frame side s
  obtain ⟨-, -, hdist, -⟩ := evaluate_keeps_consumer_fields side s
  rw [flushForced, hdist, ← hbase, ← hend, ← hlinkBase, ← hlinkEnd, ← hcfg, flushForced]

/-- An unlinked burst with nothing inside it evaluates, then emits `FlushGpu` where the flush is forced, then `RunGpu`
(42_producer_burst.md R232, R233). -/
theorem burst_unlinked_events {s : State} (hq : NothingInside s) (size : U32) (hl : s.linkEnabled = false) :
    burst size s = emit ((if flushForced s then [.flushGpu] else []) ++ [.runGpu]) (evaluate .cpu s) := by
  obtain ⟨hbetween, hflush⟩ := hq
  rw [← evaluate_interleaved .cpu s] at hflush
  rw [burst_unlinked_quiet hbetween size hl, ← flushForced_evaluate .cpu s]
  obtain ⟨hforced, h⟩ | ⟨hforced, h⟩ := burstFlush_cases (evaluate .cpu s) <;> rw [h, hforced]
  · rw [callFlush, hflush, runConsumer_nil, emit, emit, emit, List.append_assoc]
    rfl
  · rfl

/-- Settles O25. -/
theorem unlinkedBurstFlushesOnlyAMatchingNonemptyQueue : Obligations.UnlinkedBurstFlushesOnlyAMatchingNonemptyQueue := by
  intro s size hs hl hq
  refine ⟨_, exec_burst_running hs size, ?_⟩
  rw [burst_unlinked_events hq _ hl, emit_out, List.append_assoc]
  simp only [← flushForced_iff]

/-! ### A linked burst -/

/-- Steps 3 to 6 of a linked burst with nothing between them (42_producer_burst.md R234 to R238): everything but the two checks. -/
def burstUnchecked (size : U32) (s : State) : State :=
  { s with
    writePointer := wrapPointer s.base s.endAddr (s.writePointer + size)
    distance := s.distance + size
    linkBase := if s.readEnabled then s.base else s.linkBase
    linkEnd := if s.readEnabled then s.endAddr else s.linkEnd
    linkWritePointer := if s.readEnabled then wrapPointer s.base s.endAddr (s.writePointer + size) else s.linkWritePointer
    out := s.out ++ (if s.hiWatermark.toNat ≤ s.distance.toNat then [.excCheck] else []) ++ [.runGpu] }

theorem burstUnchecked_eq {s : State} (hl : s.linkEnabled = true) (size : U32) :
    emit [.runGpu] (burstAdd size (burstEarlyCheck (burstPublish (burstAdvance size s)))) = burstUnchecked size s := by
  rw [burstEarlyCheck_eq]
  cases hr : s.readEnabled <;> simp [burstPublish, burstUnchecked, burstAdvance, burstAdd, emit, hl, hr]

theorem evaluate_linkEnabled (side : Side) (s : State) : (evaluate side s).linkEnabled = s.linkEnabled := by
  rw [evaluate_toDescriptor]
  rfl

/-- A linked burst with nothing between its steps: step 1, steps 3 to 6, the two checks. -/
theorem burst_linked_checks {s : State} (hb : NothingBetween s) (size : U32) (hl : s.linkEnabled = true) :
    burst size s = burstPostconditions (burstUnchecked size (evaluate .cpu s)) := by
  rw [burst_linked_quiet hb size hl, burstUnchecked_eq ((evaluate_linkEnabled .cpu s).trans hl)]

theorem burstUnchecked_evaluate (size : U32) (s : State) :
    burstUnchecked size (evaluate .cpu s) = { evaluate .cpu s with
      writePointer := wrapPointer s.base s.endAddr (s.writePointer + size)
      distance := s.distance + size
      linkBase := if s.readEnabled then s.base else s.linkBase
      linkEnd := if s.readEnabled then s.endAddr else s.linkEnd
      linkWritePointer := if s.readEnabled then wrapPointer s.base s.endAddr (s.writePointer + size) else s.linkWritePointer
      out := (evaluate .cpu s).out ++ (if s.hiWatermark.toNat ≤ s.distance.toNat then [.excCheck] else []) ++ [.runGpu] } := by
  obtain ⟨-, -, ⟨hlinkBase, hlinkEnd, hlinkWrite⟩, -⟩ := evaluate_frame .cpu s
  simp only [burstUnchecked, ← hlinkBase, ← hlinkEnd, ← hlinkWrite, evaluate_toDescriptor]
  rfl

/-- Step 7 by its conditions (42_producer_burst.md R239, R240). -/
theorem burstPostconditions_overflow {s : State} (h : (s.endAddr - s.base).toNat < s.distance.toNat) :
    burstPostconditions s = raiseFatal .overflow s :=
  if_pos (decide_eq_true h)

theorem overflowed_fits {s : State} (h : s.distance.toNat ≤ (s.endAddr - s.base).toNat) : overflowed s = false :=
  decide_eq_false (Nat.not_lt_of_le h)

theorem linkDesynced_iff {s : State} (hl : s.linkEnabled = true) :
    linkDesynced s = true ↔ s.linkWritePointer ≠ s.writePointer ∨ s.linkBase ≠ s.base ∨ s.linkEnd ≠ s.endAddr := by
  simp [linkDesynced, hl, or_assoc]

theorem burstPostconditions_desync {s : State} (hfits : s.distance.toNat ≤ (s.endAddr - s.base).toNat) (hl : s.linkEnabled = true)
    (h : s.linkWritePointer ≠ s.writePointer ∨ s.linkBase ≠ s.base ∨ s.linkEnd ≠ s.endAddr) :
    burstPostconditions s = raiseFatal .linkDesync s := by
  simp only [burstPostconditions, overflowed_fits hfits, (linkDesynced_iff hl).mpr h, Bool.false_eq_true, if_false, if_true]

theorem burstPostconditions_passes {s : State} (hfits : s.distance.toNat ≤ (s.endAddr - s.base).toNat) (hl : s.linkEnabled = true)
    (hwrite : s.linkWritePointer = s.writePointer) (hbase : s.linkBase = s.base) (hend : s.linkEnd = s.endAddr) :
    burstPostconditions s = s := by
  have hsync : linkDesynced s = false := by
    rw [← Bool.not_eq_true, linkDesynced_iff hl]
    simp [hwrite, hbase, hend]
  simp only [burstPostconditions, overflowed_fits hfits, hsync, Bool.false_eq_true, if_false]

/-- Settles O27: the statement's `r` is the state before the two checks, and each clause is an outcome of the checks. -/
theorem linkedBurstAddsThenChecks : Obligations.LinkedBurstAddsThenChecks := by
  intro s size hs hl hb e he wp d lb le lw hwp hd hlb hle hlw r hr
  have hlink : (evaluate .cpu s).linkEnabled = true := (evaluate_linkEnabled .cpu s).trans hl
  have hbase : (evaluate .cpu s).base = s.base := by rw [evaluate_toDescriptor]; rfl
  have hend : (evaluate .cpu s).endAddr = s.endAddr := by rw [evaluate_toDescriptor]; rfl
  have hburst : exec (.burst size) s = .next (burstPostconditions r) := by
    rw [exec_burst_running hs, burst_linked_checks hb _ hl, burstUnchecked_evaluate, hr, hlw, hle, hlb, hd, hwp, he]
    rfl
  have hfits (h : d.toNat ≤ (s.endAddr - s.base).toNat) : r.distance.toNat ≤ (r.endAddr - r.base).toNat := by
    rw [hr, he, hbase, hend]; exact h
  have hrlink : r.linkEnabled = true := by rw [hr, he]; exact hlink
  rw [hburst]
  refine ⟨fun hover => ?overflow, fun hle' hne => ?desync, fun hle' hw hb' he' => ?passes⟩
  case overflow =>
    rw [burstPostconditions_overflow (by rw [hr, he, hbase, hend]; exact hover)]
    rfl
  case desync =>
    rw [burstPostconditions_desync (hfits hle') hrlink (by rw [hr, he, hbase, hend]; exact hne)]
    rfl
  case passes =>
    rw [burstPostconditions_passes (hfits hle') hrlink (by rw [hr]; exact hw) (by rw [hr, he, hbase]; exact hb')
      (by rw [hr, he, hend]; exact he')]

/-! ### Step 1 of a burst -/

/-- Since `s` the hit flags, the latch pair and the queue stayed, and no event told the line anything. -/
def LineUntouchedSince (s t : State) : Prop :=
  SameHits s t ∧ SameMailbox s t ∧ ∃ rest, t.out = s.out ++ rest ∧ lastLevel rest = none

theorem emit_lineUntouched {e : List Event} (he : lastLevel e = none) (s : State) : LineUntouchedSince s (emit e s) :=
  ⟨⟨rfl, rfl, rfl⟩, ⟨rfl, rfl, rfl⟩, e, rfl, he⟩

theorem burstUnchecked_lineUntouched (size : U32) (s : State) : LineUntouchedSince s (burstUnchecked size s) :=
  ⟨⟨rfl, rfl, rfl⟩, ⟨rfl, rfl, rfl⟩, _, List.append_assoc _ _ _, by rw [lastLevel_append]; split <;> rfl⟩

theorem burstPostconditions_lineUntouched {s t : State} (h : LineUntouchedSince s t) : LineUntouchedSince s (burstPostconditions t) := by
  obtain ⟨hhits, hmailbox, rest, hout, hrest⟩ := h
  have hfatal : ∀ reason, LineUntouchedSince s (raiseFatal reason t) := fun reason =>
    ⟨hhits, hmailbox, rest ++ [.fatal reason t.toDescriptor], by rw [raiseFatal_out, hout, List.append_assoc],
      by rw [lastLevel_append, hrest]; rfl⟩
  obtain ⟨-, h⟩ | ⟨-, -, h⟩ | ⟨-, -, h⟩ := burstPostconditions_cases t <;> rw [h]
  · exact hfatal .overflow
  · exact hfatal .linkDesync
  · exact ⟨hhits, hmailbox, rest, hout, hrest⟩

/-- With nothing inside it a burst does not touch the line after step 1, in either link mode. -/
theorem burst_lineUntouched {s : State} (hq : NothingInside s) (size : U32) : LineUntouchedSince (evaluate .cpu s) (burst size s) := by
  cases hl : s.linkEnabled with
  | false =>
    rw [burst_unlinked_events hq size hl]
    exact emit_lineUntouched (by split <;> rfl) _
  | true =>
    rw [burst_linked_checks hq.1 size hl]
    exact burstPostconditions_lineUntouched (burstUnchecked_lineUntouched size _)

/-- The CPU side's evaluation applies the composite condition at once unless a change is in flight (44_interrupt_evaluator.md R270). -/
theorem evaluate_cpu_line (s : State) :
    (evaluate .cpu s).interruptAsserted =
        (if s.interruptChangePending then s.interruptAsserted else compositeCondition (refreshHits s.toDescriptor)) ∧
      (evaluate .cpu s).interruptChangePending = s.interruptChangePending ∧ (evaluate .cpu s).eventQueue = s.eventQueue ∧
      (evaluate .cpu s).out = s.out ++
        (if compositeCondition (refreshHits s.toDescriptor) ≠ s.interruptAsserted ∧ s.interruptChangePending = false
          then [.setInterrupt s.cfg.irqCause (compositeCondition (refreshHits s.toDescriptor)), .excCheck, .runGpu] else []) := by
  obtain ⟨h, hsettled⟩ | ⟨-, -, -, hside, -⟩ | ⟨h, hne, hpending, -⟩ := evaluate_cases .cpu s
  · rw [h]
    obtain heq | hpending := hsettled
    · simp [heq]
    · simp [hpending]
  · cases hside
  · rw [h]
    simp [hne, hpending]

/-- Settles O28: step 1 is the evaluation of the state before the burst, and the line stays as it left it. -/
theorem burstEvaluatesBeforeItAdds : Obligations.BurstEvaluatesBeforeItAdds := by
  intro s size hs hq bp hi lo cond hbp hhi hlo hcond
  subst hbp hhi hlo
  obtain rfl : cond = compositeCondition (refreshHits s.toDescriptor) := hcond
  obtain ⟨⟨hbpHit, hhiHit, hloHit⟩, ⟨hline, hpending, hqueue⟩, rest, hout, hrest⟩ := burst_lineUntouched hq (size.setWidth 32)
  obtain ⟨hevalBp, hevalHi, hevalLo⟩ := evaluate_hits .cpu s
  obtain ⟨hevalLine, hevalPending, hevalQueue, hevalOut⟩ := evaluate_cpu_line s
  exact ⟨_, exec_burst_running hs size, hbpHit.symm.trans hevalBp, hhiHit.symm.trans hevalHi, hloHit.symm.trans hevalLo,
    hline.symm.trans hevalLine, hpending.symm.trans hevalPending, hqueue.symm.trans hevalQueue, rest, by rw [hout, hevalOut], hrest⟩

/-! ### Link mode without read-enable -/

/-- Settles O30: without read-enable nothing is published, so a burst that passes the second check found the link state already equal. -/
theorem linkedBurstWithoutReadEnableIsFatalUnlessLinked : Obligations.LinkedBurstWithoutReadEnableIsFatalUnlessLinked := by
  intro s size hs hl hread
  refine ⟨_, exec_burst_running hs size, fun hfault => ?_⟩
  obtain ⟨b, hframe, hburst⟩ := burst_linked_frame hl (size.setWidth 32)
  have hstale : burstPublish (burstAdvance (size.setWidth 32) s) = burstAdvance (size.setWidth 32) s := if_neg (by simp [hread])
  rw [hstale] at hframe
  obtain ⟨⟨hbase, hend, -, -, -, hlink, -⟩, hwrite, ⟨hlinkBase, hlinkEnd, hlinkWrite⟩, -⟩ := hframe
  rw [hburst] at hfault
  obtain ⟨-, h⟩ | ⟨-, -, h⟩ | ⟨-, hsync, -⟩ := burstPostconditions_cases b
  · rw [h] at hfault; cases hfault
  · rw [h] at hfault; cases hfault
  · rw [← Bool.not_eq_true, linkDesynced_iff (hlink.symm.trans hl)] at hsync
    simp only [ne_eq, not_or, not_not] at hsync
    obtain ⟨hw, hb, he⟩ := hsync
    exact ⟨hlinkBase.trans (hb.trans hbase.symm), hlinkEnd.trans (he.trans hend.symm), hlinkWrite.trans (hw.trans hwrite.symm)⟩

/-! ### Linked bursts by their outcome -/

section Outcome

variable {s : State} {size : U32}

/-- What the checks of a linked burst look at, in the state before the burst. -/
theorem burstUnchecked_evaluate_fields (s : State) (size : U32) :
    (burstUnchecked size (evaluate .cpu s)).base = s.base ∧ (burstUnchecked size (evaluate .cpu s)).endAddr = s.endAddr ∧
      (burstUnchecked size (evaluate .cpu s)).distance = s.distance + size ∧
      (burstUnchecked size (evaluate .cpu s)).writePointer = wrapPointer s.base s.endAddr (s.writePointer + size) := by
  simp only [burstUnchecked, evaluate_toDescriptor]
  exact ⟨rfl, rfl, rfl, rfl⟩

/-- A linked burst whose sum exceeds the capacity records Overflow and rolls nothing back (42_producer_burst.md R239). -/
theorem burst_linked_overflows (hb : NothingBetween s) (hl : s.linkEnabled = true)
    (h : (s.endAddr - s.base).toNat < (s.distance + size).toNat) :
    burst size s = raiseFatal .overflow (burstUnchecked size (evaluate .cpu s)) := by
  obtain ⟨hbase, hend, hdist, -⟩ := burstUnchecked_evaluate_fields s size
  rw [burst_linked_checks hb size hl, burstPostconditions_overflow (by rw [hbase, hend, hdist]; exact h)]

/-- A linked burst with read-enable whose sum fits passes both checks: it has just published what the second one compares. -/
theorem burst_linked_fits (hb : NothingBetween s) (hl : s.linkEnabled = true) (hr : s.readEnabled = true)
    (h : (s.distance + size).toNat ≤ (s.endAddr - s.base).toNat) : burst size s = burstUnchecked size (evaluate .cpu s) := by
  obtain ⟨hbase, hend, hdist, -⟩ := burstUnchecked_evaluate_fields s size
  have hread : (evaluate .cpu s).readEnabled = true := by rw [evaluate_toDescriptor]; exact hr
  have hlink : (burstUnchecked size (evaluate .cpu s)).linkEnabled = true := (evaluate_linkEnabled .cpu s).trans hl
  rw [burst_linked_checks hb size hl]
  exact burstPostconditions_passes (by rw [hbase, hend, hdist]; exact h) hlink (if_pos hread) (if_pos hread) (if_pos hread)

end Outcome

/-- Settles O31: with both bounds 0 the capacity is 0, and the size is not. -/
theorem linkedBurstOnAnUnprogrammedQueueOverflows : Obligations.LinkedBurstOnAnUnprogrammedQueueOverflows := by
  intro c size hsize
  have hs : Running { State.resetOf c with linkEnabled := true, readEnabled := true } := rfl
  have hne : size.setWidth 32 ≠ 0#32 := fun h => hsize (by bv_omega)
  have hover : burst (size.setWidth 32) { State.resetOf c with linkEnabled := true, readEnabled := true } = _ :=
    burst_linked_overflows (.inr ⟨rfl, rfl, rfl, rfl, rfl, rfl, rfl⟩) rfl
      (show (0#32 - 0#32).toNat < (0#32 + size.setWidth 32).toNat by bv_omega)
  obtain ⟨-, -, hdist, hwrite⟩ :=
    burstUnchecked_evaluate_fields { State.resetOf c with linkEnabled := true, readEnabled := true } (size.setWidth 32)
  refine ⟨_, exec_burst_running hs size, ?_⟩
  rw [hover, raiseFatal_toSavedCore, hdist, hwrite]
  have hsum : 0#32 + size.setWidth 32 = size.setWidth 32 := BitVec.zero_add _
  exact ⟨rfl, hsum, (if_neg (hsum.symm ▸ hne)).trans hsum⟩

/-! ### Filling the ring -/

/-- How far the write pointer stands past the base. -/
def ringOffset (d : Descriptor) : Nat := d.writePointer.toNat - d.base.toNat

/-- A queue ready for linked bursts of one size: the range and alignment duties, link mode and read-enable, nothing between the steps. -/
structure RingReady (size : Nat) (s : State) : Prop where
  running : Running s
  linked : s.linkEnabled = true
  enabled : s.readEnabled = true
  quiet : NothingBetween s
  range : QueueOk s.toDescriptor
  aligned : BurstAligned size s.toDescriptor

/-- The write pointer after an aligned advance is where the ring puts it, still aligned and inside the region: by alignment it reaches the
end exactly or stays below it. -/
theorem wrapPointer_ring {b e w n : U32} (hbw : b.toNat ≤ w.toNat) (hwe : w.toNat < e.toNat)
    (hw : (w.toNat - b.toNat) % n.toNat = 0) (hcap : (e.toNat - b.toNat) % n.toNat = 0) :
    b.toNat ≤ (wrapPointer b e (w + n)).toNat ∧ (wrapPointer b e (w + n)).toNat < e.toNat ∧
      (wrapPointer b e (w + n)).toNat - b.toNat = (w.toNat - b.toNat + n.toNat) % (e.toNat - b.toNat) := by
  have hgap : n.toNat ∣ (e.toNat - b.toNat) - (w.toNat - b.toNat) :=
    Nat.dvd_sub (Nat.dvd_of_mod_eq_zero hcap) (Nat.dvd_of_mod_eq_zero hw)
  have hfits : n.toNat ≤ (e.toNat - b.toNat) - (w.toNat - b.toNat) := Nat.le_of_dvd (by omega) hgap
  have he := e.isLt
  have hsum : (w + n).toNat = w.toNat + n.toNat := by bv_omega
  unfold wrapPointer
  split
  · have hend : w.toNat + n.toNat = e.toNat := by rw [← hsum, ‹w + n = e›]
    rw [show w.toNat - b.toNat + n.toNat = e.toNat - b.toNat by omega, Nat.mod_self]
    omega
  · have hne : w.toNat + n.toNat ≠ e.toNat := fun h => ‹¬w + n = e› (BitVec.eq_of_toNat_eq (hsum.trans h))
    rw [hsum, Nat.mod_eq_of_lt (by omega)]
    omega

theorem setWidth_toNat (size : U16) : (size.setWidth 32).toNat = size.toNat :=
  BitVec.toNat_setWidth_of_le (by omega)

theorem bounds_toNat {d : Descriptor} (h : d.base.toNat < d.endAddr.toNat) : (d.endAddr - d.base).toNat = capacity d := by
  unfold capacity
  bv_omega

/-- What one burst that fits stores: the sum, and the write pointer advanced in the ring. -/
theorem burst_fits_values {s : State} {size : U16} (hring : RingReady size.toNat s)
    (hfit : s.distance.toNat + size.toNat ≤ capacity s.toDescriptor) :
    (burst (size.setWidth 32) s).fault = none ∧
      (burst (size.setWidth 32) s).distance.toNat = s.distance.toNat + size.toNat ∧
      s.base.toNat ≤ (burst (size.setWidth 32) s).writePointer.toNat ∧
      (burst (size.setWidth 32) s).writePointer.toNat < s.endAddr.toNat ∧
      (burst (size.setWidth 32) s).writePointer.toNat - s.base.toNat =
        (ringOffset s.toDescriptor + size.toNat) % capacity s.toDescriptor := by
  obtain ⟨hs, hl, hr, hb, ⟨hbounds, hlow, hhigh, -⟩, halign, hcap⟩ := hring
  have hsum : (s.distance + size.setWidth 32).toNat = s.distance.toNat + size.toNat := by
    have hend := s.endAddr.isLt
    rw [BitVec.toNat_add, setWidth_toNat, Nat.mod_eq_of_lt (by unfold capacity at hfit; omega)]
  obtain ⟨-, -, hdist, hwrite⟩ := burstUnchecked_evaluate_fields s (size.setWidth 32)
  rw [burst_linked_fits hb hl hr (by rw [bounds_toNat hbounds, hsum]; exact hfit), hdist, hwrite, hsum]
  rw [← setWidth_toNat size] at halign hcap
  have hpointer := wrapPointer_ring hlow hhigh halign hcap
  rw [setWidth_toNat] at hpointer
  exact ⟨(evaluate_fault .cpu s).trans hs, rfl, hpointer⟩

/-- One burst that fits leaves a queue ready for the next one. -/
theorem ring_burst {s : State} {size : U16} (hring : RingReady size.toNat s)
    (hfit : s.distance.toNat + size.toNat ≤ capacity s.toDescriptor) :
    ∃ t, exec (.burst size) s = .next t ∧ RingReady size.toNat t ∧ t.base = s.base ∧ t.endAddr = s.endAddr ∧
      t.distance.toNat = s.distance.toNat + size.toNat ∧
      ringOffset t.toDescriptor = (ringOffset s.toDescriptor + size.toNat) % capacity s.toDescriptor := by
  obtain ⟨hfault, hdist, hlow, hhigh, hoffset⟩ := burst_fits_values hring hfit
  obtain ⟨⟨hbase, hend, -, -, -, hlink, hread, -⟩, hcfg, -, -, -, -, hinter, -⟩ := burst_programmingFrame (size.setWidth 32) s
  obtain ⟨hs, hl, hr, hb, ⟨hbounds, -⟩, halign, hcap⟩ := hring
  refine ⟨_, exec_burst_running hs size, ?_⟩
  generalize burst (size.setWidth 32) s = t at *
  have htcap : capacity t.toDescriptor = capacity s.toDescriptor := by rw [capacity, capacity, hbase, hend]
  have hquiet : NothingBetween t := by unfold NothingBetween; rw [← hcfg, ← hinter]; exact hb
  have hrange : QueueOk t.toDescriptor := by
    unfold QueueOk
    rw [htcap, hdist, ← hbase, ← hend]
    exact ⟨hbounds, hlow, hhigh, hfit⟩
  have haligned : BurstAligned size.toNat t.toDescriptor := by
    unfold BurstAligned
    rw [htcap, ← hbase, hoffset, Nat.mod_mod_of_dvd _ (Nat.dvd_of_mod_eq_zero hcap), Nat.add_mod_right]
    exact ⟨halign, hcap⟩
  exact ⟨⟨hfault, hlink.symm.trans hl, hread.symm.trans hr, hquiet, hrange, haligned⟩, hbase.symm, hend.symm, hdist,
    by rw [ringOffset, ← hbase, hoffset]⟩

/-- `n` bursts that fit, by induction on `n`. -/
theorem ring_bursts (n : Nat) {s : State} {size : U16} (hring : RingReady size.toNat s)
    (hfit : s.distance.toNat + n * size.toNat ≤ capacity s.toDescriptor) :
    ∃ t, runInstrs (List.replicate n (.burst size)) s = .next t ∧ RingReady size.toNat t ∧ t.base = s.base ∧ t.endAddr = s.endAddr ∧
      t.distance.toNat = s.distance.toNat + n * size.toNat ∧
      ringOffset t.toDescriptor = (ringOffset s.toDescriptor + n * size.toNat) % capacity s.toDescriptor := by
  induction n generalizing s with
  | zero =>
    obtain ⟨hbounds, hlow, hhigh, -⟩ := hring.range
    refine ⟨s, rfl, hring, rfl, rfl, by omega, ?_⟩
    rw [Nat.zero_mul, Nat.add_zero, Nat.mod_eq_of_lt (by unfold ringOffset capacity; omega)]
  | succ n ih =>
    rw [Nat.succ_mul] at hfit
    obtain ⟨t, hexec, ht, hbase, hend, hdist, hoffset⟩ := ring_burst hring (by omega)
    have hcap : capacity t.toDescriptor = capacity s.toDescriptor := by rw [capacity, capacity, hbase, hend]
    obtain ⟨u, hrun, hu, hbase', hend', hdist', hoffset'⟩ := ih ht (by rw [hcap, hdist]; omega)
    refine ⟨u, ?_, hu, hbase'.trans hbase, hend'.trans hend, by rw [hdist', hdist, Nat.succ_mul]; omega, ?_⟩
    · rw [List.replicate_succ, runInstrs_cons hexec, hrun]
    · rw [hoffset', hoffset, hcap, Nat.mod_add_mod, Nat.succ_mul, Nat.add_assoc, Nat.add_comm size.toNat]

/-- The burst that does not fit stores the excess and records Overflow, as long as its sum stays below 2^32 (42_producer_burst.md R237). -/
theorem ring_burst_overflows {s : State} {size : U16} (hring : RingReady size.toNat s)
    (hover : capacity s.toDescriptor < s.distance.toNat + size.toNat) (hword : s.distance.toNat + size.toNat < 2 ^ 32) :
    ∃ t, exec (.burst size) s = .next t ∧ t.fault = some .overflow ∧ t.distance.toNat = s.distance.toNat + size.toNat := by
  obtain ⟨hs, hl, -, hb, ⟨hbounds, -⟩, -⟩ := hring
  have hsum : (s.distance + size.setWidth 32).toNat = s.distance.toNat + size.toNat := by
    rw [BitVec.toNat_add, setWidth_toNat, Nat.mod_eq_of_lt hword]
  have hburst := burst_linked_overflows hb hl (by rw [bounds_toNat hbounds, hsum]; exact hover)
  obtain ⟨-, -, hdist, -⟩ := burstUnchecked_evaluate_fields s (size.setWidth 32)
  exact ⟨_, exec_burst_running hs size, by rw [hburst, raiseFatal_fault], by rw [hburst, raiseFatal_toSavedCore, hdist, hsum]⟩

/-- Settles O32. -/
theorem burstsFillTheRingExactlyToCapacity : Obligations.BurstsFillTheRingExactlyToCapacity := by
  intro n size s hs hl hr hb hempty hrange haligned hfit
  have hzero : s.distance.toNat = 0 := by rw [hempty]; rfl
  obtain ⟨t, hrun, ht, hbase, hend, hdist, hoffset⟩ := ring_bursts n ⟨hs, hl, hr, hb, hrange, haligned⟩ (by omega)
  have hcap : capacity t.toDescriptor = capacity s.toDescriptor := by rw [capacity, capacity, hbase, hend]
  rw [hzero, Nat.zero_add] at hdist
  obtain ⟨-, hlow, -⟩ := ht.range
  refine ⟨t, hrun, ht.running, by rw [hdist, Nat.min_eq_left hfit], ht.range, ?_, fun hover hword => ?_⟩
  · unfold ringOffset at hoffset
    rw [← hoffset, ← hbase]
    omega
  · rw [Nat.succ_mul] at hover hword ⊢
    rw [← hdist] at hover hword ⊢
    exact ring_burst_overflows ht (by rw [hcap]; exact hover) hword

/-! ### The add and a subtraction inside the burst -/

theorem between_distSub {s : State} (h : s.cfg.dualThread = true) (n : U32) : between [.distSub n] s = subDistance n s := by
  rw [between_dualThread h]
  rfl

theorem burstPublish_distance (s : State) : (burstPublish s).distance = s.distance := by
  obtain ⟨-, -, h⟩ | ⟨-, h⟩ := burstPublish_cases s <;> rw [h]

/-- What a linked burst stores in `distance` where operations fall just before and just after step 5 only: step 5 and these operations,
from a state with the `distance` and the configuration of the first. -/
theorem burst_distance_step5 {s : State} (hl : s.linkEnabled = true) (before after : List ConsumerOp)
    (hi : s.interleaved = { Interleaving.none with after4 := before, after5 := after }) (size : U32) :
    ∃ x, x.distance = s.distance ∧ x.cfg = s.cfg ∧
      (burst size s).distance = (between after (burstAdd size (between before x))).distance := by
  refine ⟨burstEarlyCheck (burstPublish (burstAdvance size (evaluate .cpu s))), ?distance, ?cfg, ?burst⟩
  case distance =>
    obtain ⟨-, -, hdist, -⟩ := evaluate_keeps_consumer_fields .cpu s
    rw [burstEarlyCheck_eq, emit_toSavedCore, burstPublish_distance, burstAdvance_distance, hdist]
  case cfg => rw [burstEarlyCheck_eq, emit_cfg, burstPublish_cfg, burstAdvance_cfg, evaluate_cfg]
  case burst =>
    rw [burst_linked hl, burstLinked, between_interleaved, between_interleaved, evaluate_interleaved, hi]
    obtain ⟨hcore, -⟩ := burstPostconditions_keeps (emit [.runGpu] (between after (burstAdd size (between before
      (burstEarlyCheck (burstPublish (burstAdvance size (evaluate .cpu s))))))))
    simp only [Interleaving.none, between_nil, hcore, emit_toSavedCore]

/-- Settles O33: addition and subtraction modulo 2^32 commute. -/
theorem addAndSubtractBothTakeEffect : Obligations.AddAndSubtractBothTakeEffect := by
  intro s size n hs hl hdual
  have hrun : ∀ f, Running { s with interleaved := f } := fun _ => hs
  refine ⟨_, _, exec_burst_running (hrun _) size, exec_burst_running (hrun _) size, ?before, ?after⟩
  case before =>
    obtain ⟨x, hdist, hcfg, hburst⟩ := burst_distance_step5
      (s := { s with interleaved := { Interleaving.none with after4 := [.distSub n] } }) hl [.distSub n] [] rfl (size.setWidth 32)
    rw [hburst, between_distSub (hcfg ▸ hdual), between_nil, burstAdd_distance, subDistance_distance, hdist]
    ring
  case after =>
    obtain ⟨x, hdist, hcfg, hburst⟩ := burst_distance_step5
      (s := { s with interleaved := { Interleaving.none with after5 := [.distSub n] } }) hl [] [.distSub n] rfl (size.setWidth 32)
    rw [hburst, between_nil, between_distSub (by rw [burstAdd_cfg, hcfg]; exact hdual), subDistance_distance, burstAdd_distance, hdist]

end Sys2Proof.Machine
end
